-- ==== Sys2Proof/Word.lean ====
section
/-! DEFINITION. The word types of the FHC and nothing more: widths of `00_scope.md` R5 and the
16-byte windows of `20_memory.md` R26. All values are unsigned (`00_scope.md` R8). -/

namespace Sys2Proof

/-- One byte of a header. -/
abbrev Byte := BitVec 8

/-- The width of SIZE (SIZE_W, R5). -/
abbrev Half := BitVec 16

/-- The width of ARG, RESULT and ID (ARG_W, ID_W, R5). -/
abbrev Word := BitVec 32

/-- A command word, OP : ARG (CMD_W, R5; R44). -/
abbrev CmdWord := BitVec 40

/-- The width of AVAIL (AVAIL_W, R5). -/
abbrev Avail := BitVec 5

/-- A 128-bit window bus, `src_bytes` or `snk_bytes` (`30_encoding.md` R54). -/
abbrev Bus := BitVec 128

/-- The 16 bytes of a window, indexed by wire offset (R26). -/
abbrev Window := Vector Byte 16

/-- What the host offers with HDR_READ: the count AVAIL and the bytes SRC[0..15] (R26, R46). -/
structure SourceWindow where
  avail : Avail
  bytes : Window
  deriving DecidableEq, Repr

end Sys2Proof
end

