-- ==== Sys2Proof/Syntax.lean ====
section
/-! DEFINITION. The nine commands of FHC-1 (`30_encoding.md` R49), commands as the host issues them
(R44, R46), and the assembler's lines before they are checked (R56, R57, R58). -/

namespace Sys2Proof

/-- The nine commands, each with its ARG field. The six commands whose ARG is ignored keep it too:
a command word is then its instruction and nothing is lost in decoding (R44, R51). -/
inductive Instr where
  | hdrRead (arg : Word)
  | hdrWrite (arg : Word)
  | setPayloadSize (n : Word)
  | getPayloadSize (arg : Word)
  | getFrameSize (arg : Word)
  | setMsgType (t : Word)
  | getMsgType (arg : Word)
  | setId (id : Word)
  | getId (arg : Word)
  deriving DecidableEq, Repr

/-- The mnemonics of R49, without an operand. -/
inductive Mnemonic where
  | hdrRead | hdrWrite | setPayloadSize | getPayloadSize | getFrameSize
  | setMsgType | getMsgType | setId | getId
  deriving DecidableEq, Repr

/-- The command of a mnemonic with a given ARG. -/
def Mnemonic.withArg (arg : Word) : Mnemonic → Instr
  | .hdrRead => .hdrRead arg
  | .hdrWrite => .hdrWrite arg
  | .setPayloadSize => .setPayloadSize arg
  | .getPayloadSize => .getPayloadSize arg
  | .getFrameSize => .getFrameSize arg
  | .setMsgType => .setMsgType arg
  | .getMsgType => .getMsgType arg
  | .setId => .setId arg
  | .getId => .getId arg

/-- The mnemonic of a command. -/
def Instr.mnemonic : Instr → Mnemonic
  | .hdrRead _ => .hdrRead
  | .hdrWrite _ => .hdrWrite
  | .setPayloadSize _ => .setPayloadSize
  | .getPayloadSize _ => .getPayloadSize
  | .getFrameSize _ => .getFrameSize
  | .setMsgType _ => .setMsgType
  | .getMsgType _ => .getMsgType
  | .setId _ => .setId
  | .getId _ => .getId

/-- The ARG field of a command. -/
def Instr.arg : Instr → Word
  | .hdrRead a => a
  | .hdrWrite a => a
  | .setPayloadSize a => a
  | .getPayloadSize a => a
  | .getFrameSize a => a
  | .setMsgType a => a
  | .getMsgType a => a
  | .setId a => a
  | .getId a => a

/-- A command as the host issues it: any of the 2^40 words, with the source window that stands on
`src_avail` and `src_bytes` beside it (R44, R46, `20_memory.md` R42). -/
structure Command where
  word : CmdWord
  source : SourceWindow
  deriving DecidableEq, Repr

/-- One line of assembler text after its characters are read, before its numbers are checked.
`none` for a byte is the `--` of R57. -/
inductive AsmLine where
  /-- an empty or comment line -/
  | blank
  /-- a command other than HDR_READ, with the number that sets ARG (R56) -/
  | plain (m : Mnemonic) (imm : Nat)
  /-- HDR_READ with its ARG, its source bytes and AVAIL (R57) -/
  | read (imm : Nat) (bytes : List (Option Byte)) (avail : Nat)
  /-- the directive `.cmd` (R56) -/
  | raw (word : Nat)
  /-- the pseudo-instruction HDR_SET t, id, n (R58) -/
  | hdrSet (t id n : Nat)
  /-- the pseudo-instruction HDR_BUILD t, id, n (R58) -/
  | hdrBuild (t id n : Nat)
  /-- the pseudo-instruction HDR_RECV (R58) -/
  | hdrRecv (bytes : List (Option Byte)) (avail : Nat)
  deriving DecidableEq, Repr

end Sys2Proof
end

