-- ==== Sys2Proof/Machine/State.lean ====
section
/-! DEFINITION. The state of one FHC (`10_state.md`), what the host does to it (`20_memory.md` R42,
`30_encoding.md` R54), a step's reasons to stop, and the state after reset (R24). Plain data. -/

namespace Sys2Proof.Machine

/-- The outcome of a command (`30_encoding.md` R48). -/
inductive Status where
  | ok | errShort | errRange | errIllegal
  deriving DecidableEq, Repr

/-- The response of a command: STATUS, RESULT and, for HDR_WRITE, the sink window (R47). -/
structure Response where
  status : Status
  result : Word
  snk : Option Window
  deriving DecidableEq, Repr

/-- The port-level state between acceptance and response (`10_state.md` R23): the response that is
due, and how many clock edges pass before the cycle that presents it. With `left = 0` the response is
presented in the present cycle and the FHC is no longer busy (`70_reset_and_hazards.md` R110, R111). -/
structure Outstanding where
  left : Nat
  response : Response
  deriving DecidableEq, Repr

/-- The input signals in one clock cycle, as they stand at the rising edge that ends it (R54, R109). -/
structure Pins where
  rst : Bool
  cmdValid : Bool
  cmdOp : Byte
  cmdArg : Word
  srcAvail : Avail
  srcBytes : Bus
  deriving DecidableEq, Repr

/-- What the host does next (`20_memory.md` R42). -/
inductive HostEvent where
  /-- One rising edge of `clk` with these input signals. `sampled`: the host samples the outputs in
  the cycle that the edge ends (R42 "take a response"). -/
  | clock (pins : Pins) (sampled : Bool)
  /-- Power is removed and restored (`60_exceptions.md` R102, `70_reset_and_hazards.md` R106). -/
  | powerCycle
  /-- Two masters drive the one command port without arbitration (R43,
  `93_implementation_defined.md` I1). -/
  | sharedPort
  deriving DecidableEq, Repr

/-- The machine's state. `size`, `mtype` and `id` are the whole architectural state (R13);
`outstanding` is the port-level state of R23; `rstCount` and `unreset` are what R103 and R106 imply;
`host` is the host's future, not the FHC's; `draws` is the model's own (log entry 11). -/
structure State where
  /-- SIZE (R14) -/
  size : Half
  /-- MTYPE (R15) -/
  mtype : Byte
  /-- ID (R16) -/
  id : Word
  /-- the command that is accepted and not yet answered, or being answered (R23, R110, R111) -/
  outstanding : Option Outstanding
  /-- how many consecutive edges, up to now, had `rst` = 1 (R103) -/
  rstCount : Nat
  /-- power was applied and no reset has taken effect since (R106) -/
  unreset : Bool
  /-- what the host does at the coming edges, first event first; with none left it idles (log entry 1) -/
  host : List HostEvent
  /-- how many steps have been made: free values are drawn by this number (log entry 11) -/
  draws : Nat
  deriving DecidableEq, Repr

/-- Reasons for the machine to stop with a fault. There are none: "A failure is not a trap"
(`60_exceptions.md` R93) and "no command hangs" (R85). Log entry 12. -/
inductive Fault where
  deriving DecidableEq, Repr

/-- Reasons for the model to give a step no meaning. -/
inductive Refusal where
  /-- No instruction raises it: an instruction without a meaning would be rejected by this name. Safe. -/
  | notModelled (mnemonic : String)
  /-- The step raises it when the host presents a command while `cmd_ready` = 0. The spec gives such a
  run no meaning (`20_memory.md` R42, `93_implementation_defined.md` I12: refuse). Safe. -/
  | presentedWhileNotReady
  /-- The step raises it when the host does not sample in the cycle with `rsp_valid` = 1. The spec gives
  such a run no meaning (R42, I12: refuse). Safe. -/
  | missedResponse
  /-- The step raises it when two masters share the port unarbitrated. "This spec gives no meaning to
  unarbitrated sharing, and a model refuses it" (R43, I1). Safe. -/
  | unarbitratedSharing
  deriving DecidableEq, Repr

/-- The machine right after reset (`10_state.md` R24, `70_reset_and_hazards.md` R104): an empty valid
header, not busy. The host does nothing yet (log entry 1), and no draw has been made (log entry 11). -/
def State.reset : State :=
  { size := 0x0010
    mtype := 0x00
    id := 0x00000000
    outstanding := none
    rstCount := 0
    unreset := false
    host := []
    draws := 0 }

end Sys2Proof.Machine
end

