-- ==== Sys2Proof/Machine/Flags.lean ====
section
/-! DEFINITION. The FHC has no flags (`10_state.md` R21). What takes their place is the STATUS of each
response: its codes (`30_encoding.md` R48) and the three conditions of a failing command
(`60_exceptions.md` R87). -/

namespace Sys2Proof.Machine

/-- The 2-bit code of a status (R48). -/
def Status.code : Status → BitVec 2
  | .ok => 0b00
  | .errShort => 0b01
  | .errRange => 0b10
  | .errIllegal => 0b11

/-- The status of a 2-bit code: all four codes are used (R48). -/
def Status.ofCode (c : BitVec 2) : Status :=
  match c.toNat with
  | 0 => .ok
  | 1 => .errShort
  | 2 => .errRange
  | _ => .errIllegal

/-- HDR_READ's failure: the source cannot supply 16 bytes (R88). -/
def sourceShort (avail : Avail) : Bool := avail.toNat < 16

/-- SET_PAYLOAD_SIZE's failure: the whole unsigned operand exceeds MAX_PAYLOAD (R89, `41_size_fields.md`
R72). -/
def payloadTooLong (n : Word) : Bool := 65519 < n.toNat

/-- SET_MSG_TYPE's failure: the whole unsigned operand exceeds one byte (R89, `42_id_type_fields.md`
R77). -/
def typeTooLarge (t : Word) : Bool := 255 < t.toNat

end Sys2Proof.Machine
end

