-- ==== Sys2Proof/Config.lean ====
section
/-! DEFINITION. What the spec leaves to an implementation (`00_scope.md` R6) and the free values:
constants without a body, so no proof can lean on what they are. -/

namespace Sys2Proof

/-- CMD_LATENCY less 1, for each opcode (R6, R111). "It is the same for every command unless an
implementation documents otherwise" (R116), so it is a function of OP. Log entry 3. -/
opaque Config.extraLatency : Byte → Nat

/-- CMD_LATENCY of a command: "integer ≥ 1" (R6). -/
def Config.cmdLatency (op : Byte) : Nat := Config.extraLatency op + 1

/-- RESET_MIN_CYCLES less 1 (R6, `70_reset_and_hazards.md` R103). Log entry 4. -/
opaque Config.extraResetCycles : Nat

/-- RESET_MIN_CYCLES: "integer ≥ 1" (R6). -/
def Config.resetMinCycles : Nat := Config.extraResetCycles + 1

/-- N_INSTANCES less 1 (R6, `60_exceptions.md` R100). Log entry 10. -/
opaque Config.extraInstances : Nat

/-- N_INSTANCES: "integer ≥ 1" (R6). -/
def Config.nInstances : Nat := Config.extraInstances + 1

/-- Whether a reset pulse that is still shorter than RESET_MIN_CYCLES takes effect at this edge (R103;
`93_implementation_defined.md` I4: "A model admits both outcomes"). Free. Log entry 4. -/
opaque Config.shortResetTakes : Nat → Bool

/-- SIZE before the first reset after power-up (R106, I5). Free. Log entry 6. -/
opaque Config.freeSize : Nat → Half

/-- MTYPE before the first reset after power-up (R106, I5). Free. Log entry 6. -/
opaque Config.freeMtype : Nat → Byte

/-- ID before the first reset after power-up (R106, I5). Free. Log entry 6. -/
opaque Config.freeId : Nat → Word

/-- The busy state before the first reset after power-up: not busy, or some cycles left (R106, I5).
Free. Log entry 6. -/
opaque Config.freeBusy : Nat → Option Nat

/-- `cmd_ready` before the first reset after power-up (R106). Free. Log entry 6. -/
opaque Config.freeReady : Nat → Bool

/-- `rsp_valid` before the first reset after power-up (R106). Free. Log entry 6. -/
opaque Config.freeValid : Nat → Bool

/-- `rsp_status` where no response is presented, or before the first reset (R106). Free. Log entry 9. -/
opaque Config.freeStatus : Nat → BitVec 2

/-- `rsp_result` where no response is presented, or before the first reset (R106). Free. Log entry 9. -/
opaque Config.freeResult : Nat → Word

/-- `snk_bytes` outside the response of an HDR_WRITE (`20_memory.md` R36, I6). Free. Log entry 9. -/
opaque Config.freeSnk : Nat → Bus

/-- The source bytes at offsets the host has not supplied, SRC[AVAIL..15] (R32, I7: "any value").
Free; a function of the wire offset. Log entry 14. -/
opaque Config.freeSrc : Nat → Byte

end Sys2Proof
end

