-- ==== Sys2Proof/WellFormed.lean ====
section
/-! DEFINITION. The checks on what the assembler is given (`30_encoding.md` R56, R57): every number
fits its field. A field that is only out of its legal range (SET_MSG_TYPE 256) is well formed: the
command assembles, and the FHC answers ERR_RANGE. -/

namespace Sys2Proof

/-- "An assembler refuses an imm that does not fit in 32 bits" (R56). -/
def argFits (imm : Nat) : Bool := imm < 2 ^ 32

/-- A `.cmd` word has 40 bits (R44, R56). -/
def wordFits (w : Nat) : Bool := w < 2 ^ 40

/-- AVAIL has 5 bits (R5, `20_memory.md` R26). -/
def availFits (n : Nat) : Bool := n < 2 ^ 5

/-- At most 16 bytes are written, and each of the first min(AVAIL, 16) is a byte, not `--` (R57). -/
def srcFits (bytes : List (Option Byte)) (avail : Nat) : Bool :=
  bytes.length ≤ 16 && min avail 16 ≤ bytes.length && (bytes.take (min avail 16)).all Option.isSome

/-- A command's ARG fits 32 bits. The type of `Instr` already says so, so every instruction is well
formed: no value of a field is refused as an encoding (R51, R52). -/
def Instr.wellFormed (i : Instr) : Bool := argFits i.arg.toNat

/-- What the assembler checks of a line before it makes words of it (R56, R57). HDR_READ is written
with its source window (R57), so it is no plain line. -/
def AsmLine.wellFormed : AsmLine → Bool
  | .blank => true
  | .plain m imm => m ≠ .hdrRead && argFits imm
  | .read imm bytes avail => argFits imm && availFits avail && srcFits bytes avail
  | .raw w => wordFits w
  | .hdrSet t id n => argFits t && argFits id && argFits n
  | .hdrBuild t id n => argFits t && argFits id && argFits n
  | .hdrRecv bytes avail => availFits avail && srcFits bytes avail

end Sys2Proof
end

