-- ==== Sys2Proof/Decode.lean ====
section
/-! DEFINITION. Command words (`30_encoding.md` R44 to R53): the decoder, total on all 2^40 words, the
encoder, and the assembler from checked lines to commands (R56 to R58). -/

namespace Sys2Proof

/-- The OP field, bits 39:32 (R44). -/
def opOf (w : CmdWord) : Byte := w.extractLsb' 32 8

/-- The ARG field, bits 31:0 (R44, R45). -/
def argOf (w : CmdWord) : Word := w.extractLsb' 0 32

/-- A command word from its fields, OP in the more significant bits (R44, R7). -/
def mkWord (op : Byte) (arg : Word) : CmdWord := op ++ arg

/-- The opcode map of R49. -/
def Mnemonic.opcode : Mnemonic → Byte
  | .hdrRead => 0x01
  | .hdrWrite => 0x02
  | .setPayloadSize => 0x03
  | .getPayloadSize => 0x04
  | .getFrameSize => 0x05
  | .setMsgType => 0x06
  | .getMsgType => 0x07
  | .setId => 0x08
  | .getId => 0x09

/-- The opcode map of R49 read the other way: `none` is a reserved opcode (R50). -/
def Mnemonic.ofOpcode (op : Byte) : Option Mnemonic :=
  match op.toNat with
  | 0x01 => some .hdrRead
  | 0x02 => some .hdrWrite
  | 0x03 => some .setPayloadSize
  | 0x04 => some .getPayloadSize
  | 0x05 => some .getFrameSize
  | 0x06 => some .setMsgType
  | 0x07 => some .getMsgType
  | 0x08 => some .setId
  | 0x09 => some .getId
  | _ => none

/-- Why a word is none of the nine commands. -/
inductive DecodeError where
  /-- the opcode is 0x00 or 0x0A to 0xFF (R50); the FHC answers ERR_ILLEGAL, it does not stop -/
  | reservedOpcode (op : Byte)
  deriving DecidableEq, Repr

/-- Decoding: total, and by OP alone (R49, R52). -/
def decode (w : CmdWord) : Except DecodeError Instr :=
  match Mnemonic.ofOpcode (opOf w) with
  | some m => .ok (m.withArg (argOf w))
  | none => .error (.reservedOpcode (opOf w))

/-- Encoding (R44, R49). -/
def encode (i : Instr) : CmdWord := mkWord i.mnemonic.opcode i.arg

/-- The 40-bit word of a table row's bits: a command has one word, so the table's bit k is bit k of the
command word (R7, R44). Bits from `nbits` up are 0. Log entry 16. -/
def tableWord (nbits w : Nat) : CmdWord := BitVec.ofNat 40 (w % 2 ^ nbits)

/-- What the decoder reads from the bits of a row of the opcode table; `none` for a reserved opcode. -/
def decodeTableWord (nbits w : Nat) : Option Instr :=
  match decode (tableWord nbits w) with
  | .ok i => some i
  | .error _ => none

/-- The window of a `src=` list: the written bytes, and for the others what the host happens to drive,
which nothing reads (R57, `20_memory.md` R32). -/
def sourceOf (bytes : List (Option Byte)) (avail : Nat) : SourceWindow :=
  { avail := BitVec.ofNat 5 avail
    bytes := Vector.ofFn fun k => ((bytes[k.val]?).join).getD (Config.freeSrc k.val) }

/-- The source window of a line that writes none: no byte, AVAIL = 0. Beside a command that does not read the
window "their values have no effect" (R46). Beside a `.cmd` word whose OP is HDR_READ it has one: the word is
answered ERR_SHORT. R56 does not say what stands there, so that is the model's: DESIGN CHOICE (log entry 22). -/
def noSource : SourceWindow := sourceOf [] 0

/-- A command without a source window. -/
def plainCommand (m : Mnemonic) (arg : Word) : Command :=
  { word := encode (m.withArg arg), source := noSource }

/-- HDR_READ with its source window. -/
def readCommand (arg : Word) (source : SourceWindow) : Command :=
  { word := encode (.hdrRead arg), source := source }

/-- `HDR_SET t, id, n` (R58). -/
def hdrSet (t id n : Word) : List Command :=
  [plainCommand .setMsgType t, plainCommand .setId id, plainCommand .setPayloadSize n]

/-- `HDR_BUILD t, id, n` (R58). -/
def hdrBuild (t id n : Word) : List Command := hdrSet t id n ++ [plainCommand .hdrWrite 0]

/-- `HDR_RECV src=… avail=N` (R58). -/
def hdrRecv (source : SourceWindow) : List Command :=
  [readCommand 0 source, plainCommand .getPayloadSize 0]

/-- The commands of an assembler line, `none` where the assembler refuses it (R56 to R58). A `.cmd` line has no
`src=`, so its window is `noSource` (log entry 22). -/
def assemble (l : AsmLine) : Option (List Command) :=
  if l.wellFormed then
    some <| match l with
      | .blank => []
      | .plain m imm => [plainCommand m (BitVec.ofNat 32 imm)]
      | .read imm bytes avail => [readCommand (BitVec.ofNat 32 imm) (sourceOf bytes avail)]
      | .raw w => [{ word := BitVec.ofNat 40 w, source := noSource }]
      | .hdrSet t id n => hdrSet (BitVec.ofNat 32 t) (BitVec.ofNat 32 id) (BitVec.ofNat 32 n)
      | .hdrBuild t id n => hdrBuild (BitVec.ofNat 32 t) (BitVec.ofNat 32 id) (BitVec.ofNat 32 n)
      | .hdrRecv bytes avail => hdrRecv (sourceOf bytes avail)
  else none

end Sys2Proof
end

