-- ==== Sys2Proof/Machine/Operands.lean ====
section
/-! DEFINITION. Operand forms: the window buses (`30_encoding.md` R55), the bytes of a window as integers
in big-endian order (`00_scope.md` R10, `20_memory.md` R28), and the input signals as a command with its
source window (R44, R46, R109). Log entry 13. -/

namespace Sys2Proof.Machine

/-- Wire offset k of a bus: bits 127-8k down to 120-8k (R55). -/
def busByte (b : Bus) (k : Nat) : Byte := b.extractLsb' (120 - 8 * k) 8

/-- The window on a bus (R55). -/
def unpackWindow (b : Bus) : Window := Vector.ofFn fun k => busByte b k.val

/-- The bus that carries a window: the bytes in wire order, offset 0 most significant (R55). -/
def packWindow (w : Window) : Bus :=
  w[0] ++ w[1] ++ w[2] ++ w[3] ++ w[4] ++ w[5] ++ w[6] ++ w[7] ++
    w[8] ++ w[9] ++ w[10] ++ w[11] ++ w[12] ++ w[13] ++ w[14] ++ w[15]

/-- A window of zero bytes. -/
def zeroWindow : Window := Vector.replicate 16 0

/-- `MemRead(addr, n)`: the bytes at wire offsets addr, …, addr+n-1, in wire order (R10). -/
def memRead (w : Window) (addr n : Nat) : List Byte :=
  (List.range n).map fun j => (w[addr + j]?).getD 0

/-- The n bytes of a value of 8·n bits, most significant byte first (R10, R28). -/
def bigEndianBytes (n : Nat) (v : BitVec (8 * n)) : List Byte :=
  (List.range n).map fun j => v.extractLsb' (8 * (n - 1 - j)) 8

/-- Bytes placed one after another from a wire offset on. -/
def putBytes (w : Window) (addr : Nat) : List Byte → Window
  | [] => w
  | b :: bs => putBytes (w.setIfInBounds addr b) (addr + 1) bs

/-- `MemWrite(addr, n, v)`: the n bytes of v, most significant byte at addr (R10). -/
def memWrite (w : Window) (addr n : Nat) (v : BitVec (8 * n)) : Window :=
  putBytes w addr (bigEndianBytes n v)

/-- `b[0] : b[1]` and its like: 16 bits from two bytes, the first more significant (R7, R10). -/
def be16 (b0 b1 : Byte) : Half := b0 ++ b1

/-- 32 bits from four bytes, the first most significant (R7, R10). -/
def be32 (b0 b1 b2 b3 : Byte) : Word := b0 ++ b1 ++ b2 ++ b3

/-- `zext_32` of a 16-bit value (`00_scope.md` R8, R47). -/
def zextHalf (v : Half) : Word := v.setWidth 32

/-- `zext_32` of an 8-bit value (R8, R47). -/
def zextByte (v : Byte) : Word := v.setWidth 32

/-- No signal asserted: what stands at the ports when the host does nothing. -/
def idlePins : Pins :=
  { rst := false, cmdValid := false, cmdOp := 0, cmdArg := 0, srcAvail := 0, srcBytes := 0 }

/-- The command word on `cmd_op` and `cmd_arg` (R44, R54). -/
def pinsWord (p : Pins) : CmdWord := mkWord p.cmdOp p.cmdArg

/-- The source window on `src_avail` and `src_bytes` (R46, R54, R55). -/
def pinsSource (p : Pins) : SourceWindow :=
  { avail := p.srcAvail, bytes := unpackWindow p.srcBytes }

/-- The input signals of a cycle in which a command is presented (R54, R55). -/
def commandPins (c : Command) : Pins :=
  { rst := false
    cmdValid := true
    cmdOp := opOf c.word
    cmdArg := argOf c.word
    srcAvail := c.source.avail
    srcBytes := packWindow c.source.bytes }

/-- The input signals in the cycle that the next edge ends. An event that is no clock edge, and a host
with nothing to do, leave the ports idle. -/
def State.pins (s : State) : Pins :=
  match s.host with
  | .clock p _ :: _ => p
  | _ => idlePins

/-- The source window that the FHC samples at the next edge (R46, R109). -/
def State.source (s : State) : SourceWindow := pinsSource s.pins

/-- Whether the host samples the outputs in the cycle that the next edge ends (R42). A host with
nothing to do still takes what is presented (log entry 1). A response that stands on the port when power is
lost counts as taken: the spec does not say, DESIGN CHOICE (log entry 21). -/
def State.sampled (s : State) : Bool :=
  match s.host with
  | .clock _ b :: _ => b
  | _ => true

end Sys2Proof.Machine
end

