-- ==== Sys2Proof/Machine/Ops.lean ====
section
/-! DEFINITION. The named operations on the state: the register writes, the two completion primitives
`respond` and `raise` (`00_scope.md` R11, `60_exceptions.md` R86), which every command ends in, the
output signals (`30_encoding.md` R54), and what reset and power do to the state
(`70_reset_and_hazards.md` R103 to R106). -/

namespace Sys2Proof.Machine

/-- `SIZE <- v` (`00_scope.md` R9). -/
def State.setSize (s : State) (v : Half) : State := { s with size := v }

/-- `MTYPE <- v`. -/
def State.setMtype (s : State) (v : Byte) : State := { s with mtype := v }

/-- `ID <- v`. -/
def State.setId (s : State) (v : Word) : State := { s with id := v }

/-- A command completes with this response: it is presented after CMD_LATENCY cycles, and the FHC is
busy until then (R23, R110, R111). -/
def State.complete (s : State) (op : Byte) (r : Response) : State :=
  { s with outstanding := some { left := Config.extraLatency op, response := r } }

/-- `respond(v)`: STATUS = OK, RESULT = v; every register write made before is kept (R11). -/
def State.respond (s : State) (op : Byte) (v : Word) : State :=
  s.complete op { status := .ok, result := v, snk := none }

/-- `respond(0)` of HDR_WRITE, whose response carries the sink window (R47, `40_header_transfer.md` R65). -/
def State.respondSnk (s : State) (op : Byte) (w : Window) : State :=
  s.complete op { status := .ok, result := 0, snk := some w }

/-- `raise E`: STATUS = E, RESULT = 0, no register changes (R11, `60_exceptions.md` R86). It is what the
FHC has in the place of taking an exception; there is nothing to return from (R93, R94). -/
def State.raise (s : State) (op : Byte) (e : Status) : State :=
  s.complete op { status := e, result := 0, snk := none }

/-- Between accepting a command and presenting its response (R23, R110). -/
def State.busy (s : State) : Bool :=
  match s.outstanding with
  | some o => o.left ≠ 0
  | none => false

/-- The response due in the present cycle, if there is one (R111). -/
def State.dueResponse (s : State) : Option Response :=
  match s.outstanding with
  | some o => if o.left = 0 then some o.response else none
  | none => none

/-- A free response: what the response signals show before the first reset (R106). -/
def freeResponse (n : Nat) : Response :=
  { status := Status.ofCode (Config.freeStatus n)
    result := Config.freeResult n
    snk := some (unpackWindow (Config.freeSnk n)) }

/-- The response presented in the present cycle, seen by the host as `rsp_valid` = 1: none while `rst` = 1
(R104, log entry 5), and otherwise the one that is due. Before the first reset after power-up it is a free
choice whether there is one, and which (R106, log entry 6). -/
def State.presented (s : State) : Option Response :=
  if s.pins.rst then none
  else if s.unreset then
    if Config.freeValid s.draws then some (freeResponse s.draws) else none
  else s.dueResponse

/-- `cmd_ready` in the cycle that the next edge ends: 0 while `rst` = 1 (R104), free before the first reset
after power-up (R106), and otherwise 1 just when the FHC is not busy (R110). -/
def State.cmdReady (s : State) : Bool :=
  !s.pins.rst && (if s.unreset then Config.freeReady s.draws else !s.busy)

/-- The FHC can accept a command at the next edge: a reset has taken effect since power-up (R106), and
`cmd_ready` = 1: not busy (R110), `rst` = 0 (R104). -/
def State.ready (s : State) : Bool := !s.pins.rst && !s.unreset && !s.busy

/-- The output signals in one cycle (R54). -/
structure Outputs where
  cmdReady : Bool
  rspValid : Bool
  rspStatus : BitVec 2
  rspResult : Word
  snkBytes : Bus
  deriving DecidableEq, Repr

/-- The output signals in the cycle that the next edge ends (R54, R110, R111). The response signals are free
where no response is presented, and `snk_bytes` wherever the response carries no sink window (R36, log
entry 9). -/
def State.outputs (s : State) : Outputs :=
  { cmdReady := s.cmdReady
    rspValid := s.presented.isSome
    rspStatus := match s.presented with
      | some r => r.status.code
      | none => Config.freeStatus s.draws
    rspResult := match s.presented with
      | some r => r.result
      | none => Config.freeResult s.draws
    snkBytes := match s.presented with
      | some r => (r.snk.map packWindow).getD (Config.freeSnk s.draws)
      | none => Config.freeSnk s.draws }

/-- One edge nearer to the response; after the cycle that presents it there is none (R111). -/
def Outstanding.tick (o : Outstanding) : Option Outstanding :=
  match o.left with
  | 0 => none
  | k + 1 => some { o with left := k }

/-- An edge passes at which nothing is accepted (R111, R102: the registers keep their values). -/
def State.elapse (s : State) : State := { s with outstanding := s.outstanding.bind Outstanding.tick }

/-- One edge nearer to the response, at an edge with `rst` = 1. No response is presented in the cycle it ends
(R104), so one that is due waits: every accepted command gets its one response unless a reset takes effect
(`60_exceptions.md` R85, R105; log entry 5). -/
def Outstanding.hold (o : Outstanding) : Outstanding := { o with left := o.left - 1 }

/-- An edge with `rst` = 1 passes at which no reset takes effect: the registers are the previous ones (R103,
`93_implementation_defined.md` I4), and a command in flight keeps its response. -/
def State.elapseHeld (s : State) : State := { s with outstanding := s.outstanding.map Outstanding.hold }

/-- A reset takes effect: the registers take their reset values and a command not yet answered is
dropped (R24, R104, R105). -/
def State.takeReset (s : State) : State :=
  { s with
    size := State.reset.size
    mtype := State.reset.mtype
    id := State.reset.id
    outstanding := none
    unreset := false }

/-- SIZE, MTYPE, ID and the busy state are unspecified (R106, I5): all are drawn afresh. -/
def State.scramble (s : State) : State :=
  { s with
    size := Config.freeSize s.draws
    mtype := Config.freeMtype s.draws
    id := Config.freeId s.draws
    outstanding := (Config.freeBusy s.draws).map fun k => { left := k, response := freeResponse s.draws } }

/-- Power is removed and restored: everything is unspecified until a reset takes effect (R102, R106). -/
def State.powerUp (s : State) : State := { s.scramble with unreset := true }

/-- The event is over: the host goes on to its next one (log entry 1), the edges with `rst` = 1 are counted
while they follow one another (R103), and one more step has been made (log entry 11). -/
def State.advance (s : State) : State :=
  { s with
    host := s.host.tail
    rstCount := if s.pins.rst then s.rstCount + 1 else 0
    draws := s.draws + 1 }

/-- The host presents a command at the next edge, and the FHC can accept it: not busy, a reset has taken
effect (R107, R109). -/
def State.offer (s : State) (c : Command) : State :=
  { s with
    host := .clock (commandPins c) true :: s.host
    outstanding := none
    unreset := false }

end Sys2Proof.Machine
end

