-- ==== Sys2Proof/Machine/HeaderTransfer.lean ====
section
/-! DEFINITION. HDR_READ and HDR_WRITE (`40_header_transfer.md`). -/

namespace Sys2Proof.Machine

/-- SIZE, MTYPE and ID from the bytes of a header. Offsets 3 and 8..15 are not used (R61, R62), and no
field is checked (R63). -/
def State.loadHeader (s : State) (b : List Byte) : State :=
  let at' := fun k => (b[k]?).getD 0
  ((s.setSize (be16 (at' 0) (at' 1))).setMtype (at' 2)).setId (be32 (at' 4) (at' 5) (at' 6) (at' 7))

/-- The 16 bytes of the header that the registers describe (R65, R66; layout `20_memory.md` R27). -/
def State.headerBytes (s : State) : Window :=
  let w0 := memWrite zeroWindow 0 2 s.size
  let w1 := memWrite w0 2 1 s.mtype
  let w2 := memWrite w1 3 1 (0x00 : Byte)
  let w3 := memWrite w2 4 4 s.id
  memWrite w3 8 8 (0 : BitVec 64)

/-- HDR_READ (R61 to R64). ARG is ignored (`30_encoding.md` R51). -/
def execHdrRead (_arg : Word) (s : State) : Host.Outcome State Fault Refusal :=
  if sourceShort s.source.avail then .next (s.raise 0x01 .errShort)
  else .next ((s.loadHeader (memRead s.source.bytes 0 16)).respond 0x01 0)

/-- HDR_WRITE (R65, R66). ARG is ignored (R51). -/
def execHdrWrite (_arg : Word) (s : State) : Host.Outcome State Fault Refusal :=
  .next (s.respondSnk 0x02 s.headerBytes)

end Sys2Proof.Machine
end

