-- ==== Sys2Proof/Machine/IdTypeFields.lean ====
section
/-! DEFINITION. SET_MSG_TYPE, GET_MSG_TYPE, SET_ID and GET_ID (`42_id_type_fields.md`). -/

namespace Sys2Proof.Machine

/-- SET_MSG_TYPE (R77): the check is on the whole unsigned operand; every byte is accepted (R83). -/
def execSetMsgType (t : Word) (s : State) : Host.Outcome State Fault Refusal :=
  if typeTooLarge t then .next (s.raise 0x06 .errRange)
  else .next ((s.setMtype (t.extractLsb' 0 8)).respond 0x06 0)

/-- GET_MSG_TYPE (R78). ARG is ignored. -/
def execGetMsgType (_arg : Word) (s : State) : Host.Outcome State Fault Refusal :=
  .next (s.respond 0x07 (zextByte s.mtype))

/-- SET_ID (R79): every 32-bit value is legal. -/
def execSetId (id : Word) (s : State) : Host.Outcome State Fault Refusal :=
  .next ((s.setId id).respond 0x08 0)

/-- GET_ID (R80). ARG is ignored. -/
def execGetId (_arg : Word) (s : State) : Host.Outcome State Fault Refusal :=
  .next (s.respond 0x09 s.id)

end Sys2Proof.Machine
end

