-- ==== Sys2Proof/Machine/SizeFields.lean ====
section
/-! DEFINITION. SET_PAYLOAD_SIZE, GET_PAYLOAD_SIZE and GET_FRAME_SIZE (`41_size_fields.md`). -/

namespace Sys2Proof.Machine

/-- SET_PAYLOAD_SIZE (R69, R72): the check is on the whole unsigned operand, then no bit is lost. -/
def execSetPayloadSize (n : Word) (s : State) : Host.Outcome State Fault Refusal :=
  if payloadTooLong n then .next (s.raise 0x03 .errRange)
  else .next ((s.setSize ((n + 16).setWidth 16)).respond 0x03 0)

/-- GET_PAYLOAD_SIZE (R70, R73): the subtraction is modulo 2^16. ARG is ignored. -/
def execGetPayloadSize (_arg : Word) (s : State) : Host.Outcome State Fault Refusal :=
  .next (s.respond 0x04 (zextHalf (s.size - 16)))

/-- GET_FRAME_SIZE (R71). ARG is ignored. -/
def execGetFrameSize (_arg : Word) (s : State) : Host.Outcome State Fault Refusal :=
  .next (s.respond 0x05 (zextHalf s.size))

end Sys2Proof.Machine
end

