-- ==== Sys2Proof/Machine/Dispatch.lean ====
section
/-! DEFINITION. The meaning of each command, one arm a constructor. -/

namespace Sys2Proof.Machine

/-- What a command does at the edge that accepts it: the registers and the response. Log entry 2. -/
def exec (i : Instr) (s : State) : Host.Outcome State Fault Refusal :=
  match i with
  | .hdrRead arg => Sys2Proof.Machine.execHdrRead arg s
  | .hdrWrite arg => Sys2Proof.Machine.execHdrWrite arg s
  | .setPayloadSize n => Sys2Proof.Machine.execSetPayloadSize n s
  | .getPayloadSize arg => Sys2Proof.Machine.execGetPayloadSize arg s
  | .getFrameSize arg => Sys2Proof.Machine.execGetFrameSize arg s
  | .setMsgType t => Sys2Proof.Machine.execSetMsgType t s
  | .getMsgType arg => Sys2Proof.Machine.execGetMsgType arg s
  | .setId id => Sys2Proof.Machine.execSetId id s
  | .getId arg => Sys2Proof.Machine.execGetId arg s

end Sys2Proof.Machine
end

