-- ==== Sys2Proof/Machine/Reserved.lean ====
section
/-! DEFINITION. A command with a reserved opcode (`30_encoding.md` R50, `60_exceptions.md` R90). -/

namespace Sys2Proof.Machine

/-- A reserved opcode raises ERR_ILLEGAL from OP alone and changes nothing (R50, R90, R91). -/
def execReserved (op : Byte) (s : State) : Host.Outcome State Fault Refusal :=
  .next (s.raise op .errIllegal)

end Sys2Proof.Machine
end

