-- ==== Sys2Proof/Machine/Clock.lean ====
section
/-! DEFINITION. One host event: a rising edge of `clk` (`70_reset_and_hazards.md` R103 to R112), a power
cycle (R106), or shared use of the port (`20_memory.md` R43). -/

namespace Sys2Proof.Machine

/-- An accepted command word runs (`30_encoding.md` R52): one of the nine commands, or a reserved opcode. -/
def acceptWord (w : CmdWord) (s : State) : Host.Outcome State Fault Refusal :=
  match decode w with
  | .ok i => exec i s
  | .error (.reservedOpcode op) => execReserved op s

/-- The host presents a command while `cmd_ready` = 0 (R42; log entry 7): `rst` = 1 (R104), busy (R110), or,
before the first reset, a free choice (R106). -/
def State.presentsUnready (s : State) : Bool := s.pins.cmdValid && !s.cmdReady

/-- The host does not sample in a cycle with `rsp_valid` = 1 (R42, R111; log entry 7). -/
def State.missesResponse (s : State) : Bool := s.presented.isSome && !s.sampled

/-- Whether reset takes effect at an edge with `rst` = 1: surely from the RESET_MIN_CYCLES-th consecutive
edge on, and by a free choice before (R103, I4; log entry 4). -/
def State.resetTakes (s : State) : Bool :=
  Config.resetMinCycles ≤ s.rstCount + 1 || Config.shortResetTakes s.draws

/-- A rising edge before the first reset: whatever is presented, everything stays unspecified (R106; log
entry 6). -/
def State.unresetEdge (s : State) : State := s.scramble

/-- A rising edge with `rst` = 1. If reset does not take effect, the state is the previous one (I4),
and time passes for a command in flight, which keeps its response (R85; log entry 5). -/
def State.resetEdge (s : State) : State :=
  if s.resetTakes then s.takeReset
  else if s.unreset then s.unresetEdge
  else s.elapseHeld

/-- One rising edge of `clk` with the input signals `s.pins`. -/
def clockEdge (s : State) : Host.Outcome State Fault Refusal :=
  if s.presentsUnready then .refused .presentedWhileNotReady
  else if s.missesResponse then .refused .missedResponse
  else if s.pins.rst then .next s.resetEdge
  else if s.unreset then .next s.unresetEdge
  else if s.pins.cmdValid then acceptWord (pinsWord s.pins) s
  else .next s.elapse

/-- What the host's next event does. -/
def hostStep (s : State) : Host.Outcome State Fault Refusal :=
  match s.host with
  | .powerCycle :: _ => .next s.powerUp
  | .sharedPort :: _ => .refused .unarbitratedSharing
  | _ => clockEdge s

/-- After an event that has a next state, the host goes on. -/
def thenAdvance : Host.Outcome State Fault Refusal → Host.Outcome State Fault Refusal
  | .next t => .next t.advance
  | .fault f => .fault f
  | .refused r => .refused r

/-- The source window beside a command that is placed for the next step: complete, all bytes 0
(log entry 15). -/
def fullZeroSource : SourceWindow := { avail := 16, bytes := zeroWindow }

end Sys2Proof.Machine
end

