-- ==== Sys2Proof/Machine/Step.lean ====
section
/-! DEFINITION. One step of the machine: the host's next event. -/

namespace Sys2Proof.Machine

/-- One step: the host's next event, and the host goes on. -/
def step (s : State) : Host.Outcome State Fault Refusal := thenAdvance (hostStep s)

/-- The state whose next step runs the instruction with these bits: the host presents it, with a complete
source window, and the FHC is ready for it (log entry 15). -/
def State.withFetchWord (s : State) (nbits w : Nat) : State :=
  s.offer { word := tableWord nbits w, source := fullZeroSource }

end Sys2Proof.Machine
end

