-- ==== Sys2Proof/Machine/Run.lean ====
section
/-! DEFINITION. Runs: the transaction-level run of `70_reset_and_hazards.md` R117, one atomic command
after another, and the port-level run, one clock edge after another, with the host's schedule for a
list of commands (R109 to R111). Log entry 19. -/

namespace Sys2Proof.Machine

/-- One command performed whole (`00_scope.md` R11): the state after it, the FHC not busy, and its
response. -/
def runCommand (c : Command) (s : State) : Option (State × Response) :=
  match acceptWord c.word { s with host := [.clock (commandPins c) true] } with
  | .next t =>
    match t.outstanding with
    | some o => some ({ t with host := s.host, outstanding := none }, o.response)
    | none => none
  | _ => none

/-- The run of a list of commands, in list order (R117): the end state and the responses. -/
def runCommands : List Command → State → Option (State × List Response)
  | [], s => some (s, [])
  | c :: cs, s =>
    match runCommand c s with
    | some (t, r) =>
      match runCommands cs t with
      | some (u, rs) => some (u, r :: rs)
      | none => none
    | none => none

/-- What a run shows (R117). -/
structure Observation where
  responses : List Response
  size : Half
  mtype : Byte
  id : Word
  deriving DecidableEq, Repr

/-- The observation of the run of a list of commands from a start state (R117). -/
def observe (cs : List Command) (s : State) : Option Observation :=
  match runCommands cs s with
  | some (t, rs) => some { responses := rs, size := t.size, mtype := t.mtype, id := t.id }
  | none => none

/-- A number of steps, and the responses the host takes in the cycles that they end (R111). -/
def runEdges : Nat → State → Option (State × List Response)
  | 0, s => some (s, [])
  | k + 1, s =>
    match step s with
    | .next t =>
      match runEdges k t with
      | some (u, rs) => some (u, s.presented.toList ++ rs)
      | none => none
    | _ => none

/-- An edge at which the host does nothing but sample. -/
def idleEdge : HostEvent := .clock idlePins true

/-- An edge with `rst` = 1 and no command. -/
def rstEdge : HostEvent := .clock { idlePins with rst := true } true

/-- The host presents a command and waits until its response is presented, and then `gap` edges more.
With gap 0 the next command is presented in the cycle of the response (R110). -/
def commandEdges (c : Command) (gap : Nat) : List HostEvent :=
  .clock (commandPins c) true :: List.replicate (Config.extraLatency (opOf c.word) + gap) idleEdge

/-- The host's events for a list of commands, each with the edges it waits after it, and one edge more
to take the last response. -/
def schedule (cs : List (Command × Nat)) : List HostEvent :=
  cs.flatMap (fun p => commandEdges p.1 p.2) ++ [idleEdge]

end Sys2Proof.Machine
end

