-- ==== Sys2Proof/Machine/System.lean ====
section
/-! DEFINITION. A system of N_INSTANCES FHCs (`00_scope.md` R6, `60_exceptions.md` R100): each has its own
registers and ports, and they share nothing. -/

namespace Sys2Proof.Machine

/-- The FHCs of a system. They have no identifiers (R100); the place in the list is the model's. -/
structure System where
  units : List State
  deriving DecidableEq, Repr

/-- A system of N_INSTANCES units, each right after reset. -/
def System.reset : System := { units := List.replicate Config.nInstances State.reset }

/-- One step of the unit at place `k`, the others standing still; `none` where there is no such unit.
Any interleaving of the units' steps is a list of such steps. -/
def System.stepAt (y : System) (k : Nat) : Option (Host.Outcome System Fault Refusal) :=
  match y.units[k]? with
  | none => none
  | some s =>
    match step s with
    | .next t => some (.next { units := y.units.set k t })
    | .fault f => some (.fault f)
    | .refused r => some (.refused r)

end Sys2Proof.Machine
end

