-- ==== Sys2Proof/Safety.lean ====
section
/-! DEFINITION. What counts as a safe run of the FHC: the host keeps its duties (`20_memory.md` R42), the
header is valid (`10_state.md` R14), what is on its way to the host is right, and the host trusts a header
only when every field of it was set (`70_reset_and_hazards.md` R113, R115). -/

namespace Sys2Proof.Machine

/-- The host's next event keeps the duties of R42 and R43: no command while `cmd_ready` = 0, every
presented response sampled, no unarbitrated sharing. -/
def State.hostKeepsDuties (s : State) : Bool :=
  match s.host with
  | .powerCycle :: _ => true
  | .sharedPort :: _ => false
  | _ => !s.presentsUnready && !s.missesResponse

/-- The §3 invariant of a valid header, size ≥ 16 (R14, `41_size_fields.md` R75). -/
def State.validHeader (s : State) : Prop := 16 ≤ s.size.toNat

/-- The three registers of two states are the same (R13). -/
def State.sameRegisters (s t : State) : Prop := t.size = s.size ∧ t.mtype = s.mtype ∧ t.id = s.id

/-- What no command touches is the same in two states: the reset count, the power flag, the host's
events, the draw counter. -/
def State.sameRest (s t : State) : Prop :=
  t.rstCount = s.rstCount ∧ t.unreset = s.unreset ∧ t.host = s.host ∧ t.draws = s.draws

/-- A command with this opcode was accepted and its response is on its way: exactly one, after the latency
of the opcode (`60_exceptions.md` R85, R111). -/
def State.answers (t : State) (op : Byte) (r : Response) : Prop :=
  t.outstanding = some { left := Config.extraLatency op, response := r }

/-- The response OK with a value (`00_scope.md` R11). -/
def okResponse (v : Word) : Response := { status := .ok, result := v, snk := none }

/-- The response of a command that fails (R11, R86). -/
def failResponse (e : Status) : Response := { status := e, result := 0, snk := none }

/-- The response of HDR_WRITE (R47). -/
def snkResponse (w : Window) : Response := { status := .ok, result := 0, snk := some w }

/-- The next event is not a loss of power (R102, R106). -/
def State.powered (s : State) : Prop := ∀ rest, s.host ≠ .powerCycle :: rest

/-- The registers at their reset values and the FHC not busy (R24, R104). -/
def State.isReset (s : State) : Prop :=
  s.size = 0x0010 ∧ s.mtype = 0x00 ∧ s.id = 0x00000000 ∧ s.outstanding = none ∧ s.unreset = false

/-- In `t` the registers and the busy state are the free values that are drawn at `s` (R106, I5). -/
def State.freeIn (s t : State) : Prop :=
  t.size = Config.freeSize s.draws ∧ t.mtype = Config.freeMtype s.draws ∧ t.id = Config.freeId s.draws ∧
    t.outstanding.map Outstanding.left = Config.freeBusy s.draws

/-- RESULT is 0 whenever STATUS ≠ OK, and only the response of an HDR_WRITE carries a sink window, with
RESULT = 0 (`30_encoding.md` R47). -/
def Response.wellFormed (r : Response) : Prop :=
  (r.status ≠ .ok → r.result = 0 ∧ r.snk = none) ∧ (r.snk ≠ none → r.result = 0)

/-- What is on its way to the host is right: once a reset has taken effect, an outstanding response is well
formed, it comes within the latency of some command, and a sink window in it is the header that the
registers hold now, since no command runs between (R37, R47, R110, R111, `40_header_transfer.md` R65). -/
def State.portInv (s : State) : Prop :=
  s.unreset = false → ∀ o, s.outstanding = some o →
    o.response.wellFormed ∧ (∃ op, o.left ≤ Config.extraLatency op) ∧
      (∀ w, o.response.snk = some w → w = s.headerBytes)

/-- The next event is an edge at which this command word is accepted (`70_reset_and_hazards.md` R109). -/
def State.accepts (s : State) (w : CmdWord) : Prop :=
  s.ready = true ∧ s.pins.cmdValid = true ∧ s.missesResponse = false ∧ pinsWord s.pins = w

/-- Which fields of the header the host may trust (R113, R115). -/
structure Trust where
  size : Bool
  mtype : Bool
  id : Bool
  deriving DecidableEq, Repr

/-- No field is trusted. -/
def Trust.none : Trust := { size := false, mtype := false, id := false }

/-- What a command and its status do to the host's trust: a successful HDR_READ sets every field, a
successful setter its own, a failed setter withdraws it (R114), a failed HDR_READ leaves none (R113), the
rest change nothing (R115). -/
def Trust.after (k : Trust) (w : CmdWord) (st : Status) : Trust :=
  match decode w, st with
  | .ok (.hdrRead _), .ok => { size := true, mtype := true, id := true }
  | .ok (.hdrRead _), _ => Trust.none
  | .ok (.setPayloadSize _), st => { k with size := st = .ok }
  | .ok (.setMsgType _), st => { k with mtype := st = .ok }
  | .ok (.setId _), st => { k with id := st = .ok }
  | _, _ => k

/-- The host's trust after a run, from the commands and the responses. -/
def Trust.afterRun (k : Trust) : List Command → List Response → Trust
  | c :: cs, r :: rs => (k.after c.word r.status).afterRun cs rs
  | _, _ => k

/-- Every field was set: the header may be trusted and sent (R115). -/
def Trust.whole (k : Trust) : Bool := k.size && k.mtype && k.id

end Sys2Proof.Machine
end

