-- ==== Sys2Proof/Certificates/Slice0/Obligations.lean ====
section
/-! DEFINITION. The statements for the provers, from the numbered rules of spec/. -/

open Sys2Proof Sys2Proof.Machine

/-! ## Encoding -/

/-- Decoding the encoding of a well-formed command gives it back, with every ARG (`30_encoding.md` R44, R49). -/
def Obligations.DecodeOfEncodeIsTheCommand : Prop :=
  ∀ i : Instr, i.wellFormed = true → decode (encode i) = .ok i

/-- A word that decodes to a command is that command's encoding: decoding drops no bit (R44, R52). -/
def Obligations.EncodeOfDecodeIsTheWord : Prop :=
  ∀ (w : CmdWord) (i : Instr), decode w = .ok i → encode i = w

/-- R52: every word decodes to exactly one command or to a reserved opcode, by OP alone; R50: 0x00 and
0x0A to 0xFF are the reserved ones. -/
def Obligations.DecodeIsTotalByOpcode : Prop :=
  ∀ w : CmdWord,
    ((1 ≤ (opOf w).toNat ∧ (opOf w).toNat ≤ 9) →
      ∃ m : Mnemonic, m.opcode = opOf w ∧ decode w = .ok (m.withArg (argOf w))) ∧
    (((opOf w).toNat = 0 ∨ 10 ≤ (opOf w).toNat) → decode w = .error (.reservedOpcode (opOf w)))

/-- R49 in match and mask terms: a command matches OP == opcode with mask 0xFF_00000000. -/
def Obligations.DecodeAgreesWithMatchAndMask : Prop :=
  ∀ (m : Mnemonic) (w : CmdWord),
    w &&& 0xFF00000000 = mkWord m.opcode 0 ↔ ∃ a, decode w = .ok (m.withArg a)

/-- Words of the table "Encodings used, collected" (`95_test_vectors.md`), and two reserved ones. -/
def Obligations.WrittenOutWordsDecode : Prop :=
  decode 0x0100000000 = .ok (.hdrRead 0) ∧
  decode 0x02DEADBEEF = .ok (.hdrWrite 0xDEADBEEF) ∧
  decode 0x0300000064 = .ok (.setPayloadSize 100) ∧
  decode 0x0412345678 = .ok (.getPayloadSize 0x12345678) ∧
  decode 0x05FFFFFFFF = .ok (.getFrameSize 0xFFFFFFFF) ∧
  decode 0x0600000100 = .ok (.setMsgType 256) ∧
  decode 0x07FFFFFFFF = .ok (.getMsgType 0xFFFFFFFF) ∧
  decode 0x080000002A = .ok (.setId 42) ∧
  decode 0x0900000001 = .ok (.getId 1) ∧
  decode 0x0000000000 = .error (.reservedOpcode 0x00) ∧
  decode 0x8100000064 = .error (.reservedOpcode 0x81)

/-- R55: the buses and the windows hold the same bytes, offset k in bits 127-8k to 120-8k, and SIZE and ID
stand in the bits the rule names after an HDR_WRITE. -/
def Obligations.BusPackingIsWireOrder : Prop :=
  (∀ (w : Window) (k : Nat) (hk : k < 16), (packWindow w).extractLsb' (120 - 8 * k) 8 = w[k]) ∧
  (∀ (b : Bus) (k : Nat) (hk : k < 16), (unpackWindow b)[k] = b.extractLsb' (120 - 8 * k) 8) ∧
  (∀ s : State, ∃ t w, exec (.hdrWrite 0) s = .next t ∧ t.answers 0x02 (snkResponse w) ∧
    (packWindow w).extractLsb' 112 16 = s.size ∧ (packWindow w).extractLsb' 64 32 = s.id)

/-- R48: the four codes. -/
def Obligations.StatusCodesAreTheSpecs : Prop :=
  Status.ok.code = 0b00 ∧ Status.errShort.code = 0b01 ∧ Status.errRange.code = 0b10 ∧
  Status.errIllegal.code = 0b11 ∧ (∀ c, (Status.ofCode c).code = c) ∧ (∀ e, Status.ofCode e.code = e)

/-- R56: a number that does not fit 32 bits is refused; one that does sets ARG, though the field's range be
smaller. -/
def Obligations.AssemblerRefusesOnlyWideNumbers : Prop :=
  ∀ (m : Mnemonic) (imm : Nat), m ≠ .hdrRead →
    (2 ^ 32 ≤ imm → assemble (.plain m imm) = none) ∧
    (imm < 2 ^ 32 → ∃ c, assemble (.plain m imm) = some [c] ∧ opOf c.word = m.opcode ∧
      (argOf c.word).toNat = imm)

/-! ## A step runs the accepted command -/

/-- An edge at which the FHC accepts a word that decodes to a command runs that command's meaning; beside
it the host goes on to its next event, the count of reset edges is 0, and the draw counter moves
(R109). That the registers change at this very edge is the model's choice (log entry 2): R112 says only that
they do no later than the cycle of the response. The bookkeeping of the host's events, the reset edges and the
draws is the model's own too (log entries 1, 4 and 11). -/
def Obligations.StepRunsTheAcceptedCommand : Prop :=
  ∀ (s : State) (w : CmdWord) (i : Instr), s.accepts w → decode w = .ok i →
    step s = thenAdvance (exec i s) ∧
    ∀ t, exec i s = .next t →
      step s = .next { t with host := s.host.tail, rstCount := 0, draws := s.draws + 1 }

/-- The state that stands for placing an instruction is one whose next step runs it: the FHC accepts exactly
that word there (the model's own operation, log entry 15). -/
def Obligations.PlacedWordIsAccepted : Prop :=
  ∀ (s : State) (w : CmdWord), (s.withFetchWord 40 w.toNat).accepts w ∧
    (s.withFetchWord 40 w.toNat).source.avail.toNat = 16 ∧
    ∀ i, decodeTableWord 40 w.toNat = some i ↔ decode w = .ok i

/-- R90: a reserved opcode is answered ERR_ILLEGAL whatever ARG and the source window, and changes nothing. -/
def Obligations.ReservedOpcodeIsAnsweredIllegal : Prop :=
  ∀ (s : State) (w : CmdWord), s.accepts w → ((opOf w).toNat = 0 ∨ 10 ≤ (opOf w).toNat) →
    ∃ t, step s = .next t ∧ s.sameRegisters t ∧ t.answers (opOf w) (failResponse .errIllegal)

/-! ## What each command does -/

/-- R61: HDR_READ, both cases. -/
def Obligations.HdrReadLoadsOrFailsShort : Prop :=
  ∀ (arg : Word) (s : State),
    (16 ≤ s.source.avail.toNat → ∃ t, exec (.hdrRead arg) s = .next t ∧ s.sameRest t ∧
      t.answers 0x01 (okResponse 0) ∧
      t.size.toNat = 256 * s.source.bytes[0].toNat + s.source.bytes[1].toNat ∧
      t.mtype = s.source.bytes[2] ∧
      t.id.toNat = 16777216 * s.source.bytes[4].toNat + 65536 * s.source.bytes[5].toNat +
        256 * s.source.bytes[6].toNat + s.source.bytes[7].toNat) ∧
    (s.source.avail.toNat < 16 → ∃ t, exec (.hdrRead arg) s = .next t ∧ s.sameRest t ∧
      t.answers 0x01 (failResponse .errShort) ∧ s.sameRegisters t)

/-- R62: HDR_READ's outcome is the same for any bytes at offsets 3 and 8 to 15, and (R32) for any bytes at
all when AVAIL < 16. -/
def Obligations.HdrReadIgnoresReservedBytes : Prop :=
  ∀ (arg : Word) (s : State) (h : List HostEvent),
    ({ s with host := h } : State).source.avail = s.source.avail →
    (16 ≤ s.source.avail.toNat → ∀ (k : Nat) (hk : k < 16), k ≠ 3 → k < 8 →
      ({ s with host := h } : State).source.bytes[k] = s.source.bytes[k]) →
    ∃ t, exec (.hdrRead arg) s = .next t ∧ exec (.hdrRead arg) { s with host := h } = .next { t with host := h }

/-- R35: HDR_READ with the same complete window gives the same registers whatever the state before it, and
HDR_WRITE repeated gives the same sink window. -/
def Obligations.HeaderTransferIsIdempotent : Prop :=
  (∀ (a a' : Word) (s s' : State), s'.source = s.source → 16 ≤ s.source.avail.toNat →
    ∃ t t', exec (.hdrRead a) s = .next t ∧ exec (.hdrRead a') s' = .next t' ∧
      t.sameRegisters t' ∧ t'.outstanding = t.outstanding) ∧
  (∀ (a a' : Word) (s : State), ∃ t u w, exec (.hdrWrite a) s = .next t ∧ exec (.hdrWrite a') t = .next u ∧
    t.answers 0x02 (snkResponse w) ∧ u.answers 0x02 (snkResponse w))

/-- R65: HDR_WRITE gives the registers' header, most significant bytes first, the reserved bytes 0, always
OK, and changes no register. -/
def Obligations.HdrWriteSerializesTheRegisters : Prop :=
  ∀ (arg : Word) (s : State), ∃ t w, exec (.hdrWrite arg) s = .next t ∧ s.sameRest t ∧ s.sameRegisters t ∧
    t.answers 0x02 (snkResponse w) ∧
    256 * w[0].toNat + w[1].toNat = s.size.toNat ∧
    w[2] = s.mtype ∧ w[3] = 0x00 ∧
    16777216 * w[4].toNat + 65536 * w[5].toNat + 256 * w[6].toNat + w[7].toNat = s.id.toNat ∧
    ∀ (k : Nat) (hk : k < 16), 8 ≤ k → w[k] = 0x00

/-- R69, R72: SET_PAYLOAD_SIZE, both cases. -/
def Obligations.SetPayloadSizeAddsHeaderOrFails : Prop :=
  ∀ (n : Word) (s : State),
    (n.toNat ≤ 65519 → ∃ t, exec (.setPayloadSize n) s = .next t ∧ s.sameRest t ∧
      t.answers 0x03 (okResponse 0) ∧ t.size.toNat = n.toNat + 16 ∧ t.mtype = s.mtype ∧ t.id = s.id) ∧
    (65519 < n.toNat → ∃ t, exec (.setPayloadSize n) s = .next t ∧ s.sameRest t ∧
      t.answers 0x03 (failResponse .errRange) ∧ s.sameRegisters t)

/-- R70: GET_PAYLOAD_SIZE returns (SIZE - 16) mod 2^16. -/
def Obligations.GetPayloadSizeReturnsSizeLess16 : Prop :=
  ∀ (arg : Word) (s : State), ∃ t v, exec (.getPayloadSize arg) s = .next t ∧ s.sameRest t ∧
    s.sameRegisters t ∧ t.answers 0x04 (okResponse v) ∧ v.toNat = (s.size.toNat + 65536 - 16) % 65536

/-- R73 and R75: with SIZE < 16 the result exceeds every payload length; with SIZE ≥ 16 it is the payload
length. -/
def Obligations.GetPayloadSizeTellsInvalidHeaders : Prop :=
  ∀ (arg : Word) (s : State), ∃ t v, exec (.getPayloadSize arg) s = .next t ∧ t.answers 0x04 (okResponse v) ∧
    (s.size.toNat < 16 → v.toNat = 65536 + s.size.toNat - 16 ∧ 65520 ≤ v.toNat ∧ v.toNat ≤ 65535) ∧
    (16 ≤ s.size.toNat → v.toNat = s.size.toNat - 16 ∧ v.toNat ≤ 65519)

/-- R71: GET_FRAME_SIZE returns SIZE. -/
def Obligations.GetFrameSizeReturnsSize : Prop :=
  ∀ (arg : Word) (s : State), ∃ t v, exec (.getFrameSize arg) s = .next t ∧ s.sameRest t ∧
    s.sameRegisters t ∧ t.answers 0x05 (okResponse v) ∧ v.toNat = s.size.toNat

/-- R77: SET_MSG_TYPE, both cases. -/
def Obligations.SetMsgTypeStoresByteOrFails : Prop :=
  ∀ (t : Word) (s : State),
    (t.toNat ≤ 255 → ∃ u, exec (.setMsgType t) s = .next u ∧ s.sameRest u ∧
      u.answers 0x06 (okResponse 0) ∧ u.mtype.toNat = t.toNat ∧ u.size = s.size ∧ u.id = s.id) ∧
    (255 < t.toNat → ∃ u, exec (.setMsgType t) s = .next u ∧ s.sameRest u ∧
      u.answers 0x06 (failResponse .errRange) ∧ s.sameRegisters u)

/-- R78: GET_MSG_TYPE returns MTYPE. -/
def Obligations.GetMsgTypeReturnsMtype : Prop :=
  ∀ (arg : Word) (s : State), ∃ t v, exec (.getMsgType arg) s = .next t ∧ s.sameRest t ∧
    s.sameRegisters t ∧ t.answers 0x07 (okResponse v) ∧ v.toNat = s.mtype.toNat

/-- R79: SET_ID sets ID to any 32-bit value. -/
def Obligations.SetIdStoresEveryValue : Prop :=
  ∀ (id : Word) (s : State), ∃ t, exec (.setId id) s = .next t ∧ s.sameRest t ∧
    t.answers 0x08 (okResponse 0) ∧ t.id = id ∧ t.size = s.size ∧ t.mtype = s.mtype

/-- R80: GET_ID returns ID. -/
def Obligations.GetIdReturnsId : Prop :=
  ∀ (arg : Word) (s : State), ∃ t, exec (.getId arg) s = .next t ∧ s.sameRest t ∧
    s.sameRegisters t ∧ t.answers 0x09 (okResponse s.id)

/-! ## All commands -/

/-- R18: a register changes only under the commands that the table lists as writing it, and no command
touches the rest of the state but the response. -/
def Obligations.CommandsWriteOnlyTheirRegisters : Prop :=
  ∀ (i : Instr) (s t : State), exec i s = .next t →
    s.sameRest t ∧
    (i.mnemonic ≠ .hdrRead → i.mnemonic ≠ .setPayloadSize → t.size = s.size) ∧
    (i.mnemonic ≠ .hdrRead → i.mnemonic ≠ .setMsgType → t.mtype = s.mtype) ∧
    (i.mnemonic ≠ .hdrRead → i.mnemonic ≠ .setId → t.id = s.id)

/-- R87 to R90: every word completes, and each error status is raised exactly on its condition. -/
def Obligations.FailuresAreExactlyTheListed : Prop :=
  ∀ (w : CmdWord) (s : State), ∃ t o, acceptWord w s = .next t ∧ t.outstanding = some o ∧
    (o.response.status = .errShort ↔ (opOf w = 0x01 ∧ s.source.avail.toNat < 16)) ∧
    (o.response.status = .errRange ↔
      ((opOf w = 0x03 ∧ 65519 < (argOf w).toNat) ∨ (opOf w = 0x06 ∧ 255 < (argOf w).toNat))) ∧
    (o.response.status = .errIllegal ↔ ((opOf w).toNat = 0 ∨ 10 ≤ (opOf w).toNat))

/-- R86: a command that fails changes no register and returns RESULT = 0. -/
def Obligations.FailedCommandChangesNothing : Prop :=
  ∀ (w : CmdWord) (s t : State) (o : Outstanding), acceptWord w s = .next t → t.outstanding = some o →
    o.response.status ≠ .ok →
    s.sameRegisters t ∧ s.sameRest t ∧ o.response.result = 0 ∧ o.response.snk = none

/-- R47: one response for every accepted word; the sink window only with HDR_WRITE; RESULT of 16, 8 or 32 bits
by the command, 0 for every other command and on every failure. -/
def Obligations.EveryWordGetsItsResponse : Prop :=
  ∀ (w : CmdWord) (s : State), ∃ t r, acceptWord w s = .next t ∧ t.answers (opOf w) r ∧
    (r.snk ≠ none ↔ opOf w = 0x02) ∧
    (r.status ≠ .ok → r.result = 0) ∧
    (opOf w ≠ 0x04 → opOf w ≠ 0x05 → opOf w ≠ 0x07 → opOf w ≠ 0x09 → r.result = 0) ∧
    (opOf w = 0x04 ∨ opOf w = 0x05 → r.result.toNat < 65536) ∧
    (opOf w = 0x07 → r.result.toNat < 256)

/-- R51: the six commands that ignore ARG, and the reserved opcodes (R50), do the same for every ARG. -/
def Obligations.IgnoredArgHasNoEffect : Prop :=
  ∀ (op : Byte) (a b : Word) (s : State), op ≠ 0x03 → op ≠ 0x06 → op ≠ 0x08 →
    acceptWord (mkWord op a) s = acceptWord (mkWord op b) s

/-- R46: no command but HDR_READ reads the source window, nor anything else the host drives. -/
def Obligations.OnlyHdrReadReadsTheSourceWindow : Prop :=
  ∀ (w : CmdWord) (s : State) (h : List HostEvent), opOf w ≠ 0x01 →
    ∃ t, acceptWord w s = .next t ∧ acceptWord w { s with host := h } = .next { t with host := h }

/-- R21: no command's behaviour depends on an earlier response: a command accepted in the cycle that presents one
response does the same beside any other, at the edge as a whole. -/
def Obligations.EarlierResponseHasNoEffect : Prop :=
  ∀ (w : CmdWord) (s : State) (r r' : Response),
    ({ s with outstanding := some { left := 0, response := r } } : State).accepts w →
    ({ s with outstanding := some { left := 0, response := r' } } : State).accepts w ∧
    step { s with outstanding := some { left := 0, response := r' } } =
      step { s with outstanding := some { left := 0, response := r } } ∧
    ∃ t r₂, step { s with outstanding := some { left := 0, response := r' } } = .next t ∧ t.answers (opOf w) r₂

/-! ## Runs of commands -/

/-- R117, R85: every run ends, with one response for each command. -/
def Obligations.EveryRunHasItsObservation : Prop :=
  ∀ (cs : List Command) (s : State), ∃ o, observe cs s = some o ∧ o.responses.length = cs.length

/-- R67: the round trip from the fields, for all register values, on any two states. -/
def Obligations.WriteThenReadGivesTheRegisters : Prop :=
  ∀ s u : State, ∃ s' w u',
    runCommand (plainCommand .hdrWrite 0) s = some (s', snkResponse w) ∧
    runCommand (readCommand 0 { avail := 16, bytes := w }) u = some (u', okResponse 0) ∧
    s.sameRegisters u'

/-- R68: the round trip from the bytes. -/
def Obligations.ReadThenWriteGivesTheBytes : Prop :=
  ∀ (s : State) (b : Window), ∃ t u w,
    runCommand (readCommand 0 { avail := 16, bytes := b }) s = some (t, okResponse 0) ∧
    runCommand (plainCommand .hdrWrite 0) t = some (u, snkResponse w) ∧
    ∀ (k : Nat) (hk : k < 16), w[k] = if k = 3 ∨ 8 ≤ k then 0x00 else b[k]

/-- R74: set then get, and the failure above 65519. -/
def Obligations.SetThenGetPayloadSize : Prop :=
  ∀ (s : State) (n : Word),
    (n.toNat ≤ 65519 → ∃ t, runCommands
        [plainCommand .setPayloadSize n, plainCommand .getPayloadSize 0, plainCommand .getFrameSize 0] s =
          some (t, [okResponse 0, okResponse n, okResponse (n + 16)])) ∧
    (65519 < n.toNat → ∃ t, runCommand (plainCommand .setPayloadSize n) s = some (t, failResponse .errRange) ∧
      t.size = s.size)

/-- R84: set then get of MTYPE and ID, and the failure of SET_MSG_TYPE. -/
def Obligations.SetThenGetTypeAndId : Prop :=
  ∀ (s : State) (v : Word),
    (v.toNat ≤ 255 → ∃ t, runCommands [plainCommand .setMsgType v, plainCommand .getMsgType 0] s =
      some (t, [okResponse 0, okResponse v])) ∧
    (255 < v.toNat → ∃ t, runCommand (plainCommand .setMsgType v) s = some (t, failResponse .errRange) ∧
      t.mtype = s.mtype) ∧
    ∃ t, runCommands [plainCommand .setId v, plainCommand .getId 0] s = some (t, [okResponse 0, okResponse v])

/-- R84: the three setters of HDR_SET reach the same state in any order, provided none fails. -/
def Obligations.SettersCommute : Prop :=
  ∀ (s : State) (t id n : Word) (cs : List Command), t.toNat ≤ 255 → n.toNat ≤ 65519 →
    cs.Perm (hdrSet t id n) →
    ∃ u, runCommands cs s = some (u, [okResponse 0, okResponse 0, okResponse 0]) ∧
      u.size.toNat = n.toNat + 16 ∧ u.mtype.toNat = t.toNat ∧ u.id = id

/-- R114: HDR_SET is not atomic: when its last command fails, the first two have taken effect. -/
def Obligations.HdrSetIsNotAtomic : Prop :=
  ∀ (s : State) (t id n : Word), t.toNat ≤ 255 → 65519 < n.toNat →
    ∃ u, runCommands (hdrSet t id n) s = some (u, [okResponse 0, okResponse 0, failResponse .errRange]) ∧
      u.mtype.toNat = t.toNat ∧ u.id = id ∧ u.size = s.size

/-- §8 end to end (L1.2; R58): HDR_BUILD on one state and HDR_RECV of its sink window on any other give back
the type, the ID and the payload length. -/
def Obligations.BuildThenReceiveGivesTheFields : Prop :=
  ∀ (s u : State) (t id n : Word), t.toNat ≤ 255 → n.toNat ≤ 65519 →
    ∃ s' w u',
      runCommands (hdrBuild t id n) s =
        some (s', [okResponse 0, okResponse 0, okResponse 0, snkResponse w]) ∧
      runCommands (hdrRecv { avail := 16, bytes := w } ++ [plainCommand .getMsgType 0, plainCommand .getId 0]) u =
        some (u', [okResponse 0, okResponse n, okResponse t, okResponse id])

/-- R94: no error state is sticky: after a failed command the rest of the run is as if it had not been
issued. -/
def Obligations.FailedCommandLeavesNoTrace : Prop :=
  ∀ (c : Command) (cs : List Command) (s t : State) (r : Response), s.outstanding = none →
    runCommand c s = some (t, r) → r.status ≠ .ok →
    runCommands (c :: cs) s = (runCommands cs s).map fun p => (p.1, r :: p.2)

/-- R113, R115: a header whose fields were all set does not depend on what the registers held before the run:
no frame leaks into the next. Which commands and statuses earn trust is the model's form of the host's duties
(Safety.lean; log entry 20). -/
def Obligations.TrustedHeaderForgetsThePast : Prop :=
  ∀ (cs : List Command) (s s' t t' : State) (rs rs' : List Response),
    runCommands cs s = some (t, rs) → runCommands cs s' = some (t', rs') →
    (Trust.none.afterRun cs rs).whole = true → t.sameRegisters t' ∧ (Trust.none.afterRun cs rs').whole = true

/-! ## Invariants and whole-machine rules -/

/-- Every step keeps the invariant of the responses on their way: well formed (R47), within the latency
(R111), and a sink window is the header that the registers hold (R37, R65). That the registers are final from the
accepting edge on is the model's choice (log entry 2). -/
def Obligations.StepKeepsThePortInvariant : Prop :=
  ∀ s t : State, s.portInv → step s = .next t → t.portInv

/-- R24: the reset values with their consequences: the getters' results, `cmd_ready` = 1, a valid header. Beside
the rule: reset meets the port invariant, and HDR_WRITE gives an empty header (R107). -/
def Obligations.ResetStateIsTheSpecs : Prop :=
  State.reset.portInv ∧ State.reset.isReset ∧ State.reset.validHeader ∧
  State.reset.ready = true ∧ State.reset.outputs.cmdReady = true ∧
  (∃ t, exec (.getFrameSize 0) State.reset = .next t ∧ t.answers 0x05 (okResponse 16)) ∧
  (∃ t, exec (.getPayloadSize 0) State.reset = .next t ∧ t.answers 0x04 (okResponse 0)) ∧
  (∃ t, exec (.getMsgType 0) State.reset = .next t ∧ t.answers 0x07 (okResponse 0)) ∧
  (∃ t, exec (.getId 0) State.reset = .next t ∧ t.answers 0x09 (okResponse 0)) ∧
  ∃ t, exec (.hdrWrite 0) State.reset = .next t ∧
    t.answers 0x02 (snkResponse #v[0x00, 0x10, 0, 0, 0, 0, 0, 0, 0, 0, 0, 0, 0, 0, 0, 0])

/-- R75: while the power stays, SIZE goes below 16 only by an accepted HDR_READ of a header whose size field is
below 16. That the edge at which SIZE changes is the one that accepts the command is the model's choice (log
entry 2). -/
def Obligations.OnlyHdrReadBreaksTheValidHeader : Prop :=
  ∀ s t : State, s.unreset = false → s.powered → s.validHeader → step s = .next t → ¬ t.validHeader →
    ∃ w, s.accepts w ∧ opOf w = 0x01 ∧ 16 ≤ s.source.avail.toNat ∧
      256 * s.source.bytes[0].toNat + s.source.bytes[1].toNat < 16

/-- R14 to R16, R102: while the power stays, a register changes only by a reset that takes effect or by an
accepted command that the rules name for it. That a command changes it at the accepting edge, and no later one,
is the model's choice (log entry 2). -/
def Obligations.OnlyNamedEventsWriteTheRegisters : Prop :=
  ∀ s t : State, s.unreset = false → s.powered → step s = .next t →
    (t.size = s.size ∨ (s.pins.rst = true ∧ t.isReset) ∨
      ∃ w, s.accepts w ∧ (opOf w = 0x01 ∨ opOf w = 0x03)) ∧
    (t.mtype = s.mtype ∨ (s.pins.rst = true ∧ t.isReset) ∨
      ∃ w, s.accepts w ∧ (opOf w = 0x01 ∨ opOf w = 0x06)) ∧
    (t.id = s.id ∨ (s.pins.rst = true ∧ t.isReset) ∨
      ∃ w, s.accepts w ∧ (opOf w = 0x01 ∨ opOf w = 0x08))

/-- R42, R43, R52, R85: a step has a next state exactly when the host keeps its duties; no command hangs. What
counts as a breach at an edge is the model's reading of the duties (log entries 7 and 8). The model's choices too are
that a loss of power is no breach, even with a response on the port (log entry 21), and that the duties before the first
reset are told by the free `cmd_ready` and `rsp_valid` (log entry 6). -/
def Obligations.StepStopsOnlyOnBrokenDuties : Prop :=
  ∀ s : State, s.hostKeepsDuties = true ↔ ∃ t, step s = .next t

/-! ## Reset and power -/

/-- R103, R104, R105: a pulse of at least RESET_MIN_CYCLES edges resets the FHC from any state, a busy one
(whose command gets no response) and one never reset included. Counting the edges is the model's form of
the rule (log entry 4). -/
def Obligations.LongResetPulseResetsFromAnyState : Prop :=
  ∀ (n : Nat) (s : State) (rest : List HostEvent), Config.resetMinCycles ≤ n →
    s.host = List.replicate n rstEdge ++ rest →
    ∃ t, runEdges n s = some (t, []) ∧ t.isReset ∧ t.host = rest

/-- R103 and I4: an edge with `rst` = 1 either resets the FHC or leaves the previous state; from the
RESET_MIN_CYCLES-th consecutive edge on it resets. Where it does not reset, a command in flight keeps its
response (R85); that its count goes on meanwhile is the model's (log entries 4 and 5). -/
def Obligations.ResetEdgeResetsOrKeeps : Prop :=
  ∀ s : State, s.pins.rst = true → s.pins.cmdValid = false → s.unreset = false →
    ∃ t, step s = .next t ∧ t.rstCount = s.rstCount + 1 ∧
      (t.isReset ∨ (s.sameRegisters t ∧ (s.outstanding = none → t.outstanding = none) ∧
        ∀ o, s.outstanding = some o → t.outstanding = some { left := o.left - 1, response := o.response })) ∧
      (Config.resetMinCycles ≤ s.rstCount + 1 → t.isReset)

/-- R104: while `rst` = 1, `cmd_ready` = 0 and `rsp_valid` = 0, and no command is accepted (log entry 5). -/
def Obligations.RstHoldsTheOutputs : Prop :=
  ∀ s : State, s.pins.rst = true →
    s.outputs.cmdReady = false ∧ s.outputs.rspValid = false ∧ ∀ w, ¬ s.accepts w

/-- R104, R107: after a reset, at the first edge with `rst` = 0, `cmd_ready` = 1, and a command presented there
is accepted. -/
def Obligations.FirstEdgeAfterResetAccepts : Prop :=
  ∀ (s : State) (c : Command) (b : Bool) (rest : List HostEvent), s.isReset →
    s.host = .clock (commandPins c) b :: rest →
    s.outputs.cmdReady = true ∧ s.outputs.rspValid = false ∧ s.accepts c.word

/-- R102, R106: after a power cycle, and after every later edge until a reset takes effect, the three registers
and the busy state are free values, and with `rst` = 0 so are the outputs; only a reset that takes effect at an
edge with `rst` = 1 ends that. The flag `unreset` and the drawing of the values afresh at each edge are the
model's form of the rule (log entry 6). It holds for every value of the free constants. -/
def Obligations.OnlyResetEndsThePowerUpState : Prop :=
  (∀ (s : State) (rest : List HostEvent), s.host = .powerCycle :: rest →
    ∃ t, step s = .next t ∧ t.unreset = true ∧ s.freeIn t) ∧
  (∀ s t : State, s.unreset = true → step s = .next t →
    (t.unreset = true ∧ s.freeIn t) ∨ (t.unreset = false ∧ s.pins.rst = true ∧ t.isReset)) ∧
  (∀ s : State, s.unreset = true → s.pins.rst = false →
    s.outputs = { cmdReady := Config.freeReady s.draws, rspValid := Config.freeValid s.draws,
                  rspStatus := Config.freeStatus s.draws, rspResult := Config.freeResult s.draws,
                  snkBytes := Config.freeSnk s.draws })

/-! ## The port -/

/-- R110, R111: after a command is accepted, the FHC stays busy at each further edge until, CMD_LATENCY edges
after the accepting one, its response is presented; the registers are the command's from the accepting
edge on, and no response but an earlier one is presented meanwhile. When the effect happens and how the
latency is counted are the model's choices (log entries 2 and 3). -/
def Obligations.BusyUntilTheResponse : Prop :=
  ∀ (s u : State) (c : Command) (k : Nat) (rest : List HostEvent), s.unreset = false → s.busy = false →
    s.host = .clock (commandPins c) true :: (List.replicate k idleEdge ++ rest) →
    k ≤ Config.extraLatency (opOf c.word) → acceptWord c.word s = .next u →
    ∃ t r, u.answers (opOf c.word) r ∧ runEdges (k + 1) s = some (t, s.presented.toList) ∧
      t.outstanding = some { left := Config.extraLatency (opOf c.word) - k, response := r } ∧
      u.sameRegisters t ∧ (t.busy = true ↔ k + 1 < Config.cmdLatency (opOf c.word)) ∧ t.host = rest

/-- R109: in a cycle without a command the values on `cmd_op`, `cmd_arg`, `src_avail` and `src_bytes` have no
effect. -/
def Obligations.PortValuesWithoutCommandHaveNoEffect : Prop :=
  ∀ (s : State) (p q : Pins) (b : Bool) (rest : List HostEvent), p.cmdValid = false → q.cmdValid = false →
    q.rst = p.rst →
    step { s with host := .clock p b :: rest } = step { s with host := .clock q b :: rest }

/-- R54, R110, R111: once a reset has taken effect and with `rst` = 0, `cmd_ready` = 1 just when the FHC is not
busy, and `rsp_valid` = 1 just when a response is due. In every state `rsp_valid` shows that a response is presented,
which then stands on the response port; and a breach of the host's duties at an edge is told by these two signals
and nothing else (R42). -/
def Obligations.PresentedResponseIsOnThePort : Prop :=
  (∀ s : State, s.unreset = false → s.pins.rst = false →
    (s.outputs.cmdReady = true ↔ s.busy = false) ∧
    (s.outputs.rspValid = true ↔ ∃ r, s.outstanding = some { left := 0, response := r }) ∧
    (s.outputs.rspValid = true → s.outputs.cmdReady = true)) ∧
  (∀ s : State, (s.outputs.rspValid = true ↔ ∃ r, s.presented = some r) ∧
    (s.presentsUnready = true ↔ (s.pins.cmdValid = true ∧ s.outputs.cmdReady = false)) ∧
    (s.missesResponse = true ↔ (s.outputs.rspValid = true ∧ s.sampled = false))) ∧
  (∀ (s : State) (r : Response), s.presented = some r →
    s.outputs.rspStatus = r.status.code ∧ s.outputs.rspResult = r.result ∧
    ∀ w, r.snk = some w → s.outputs.snkBytes = packWindow w)

/-- R85, R105, R111: while the power stays, an outstanding response is lost only by a reset that takes effect.
At every other step it is presented in the cycle that the step ends, and after that no more; or it is not, and it
is still outstanding, no edge further away, and nearer by one where it was not yet due. How long it waits for
`rst` = 0 where `rst` = 1 in the cycle in which it is due is the model's choice (log entry 5). -/
def Obligations.EveryResponseIsPresentedOnce : Prop :=
  ∀ (s t : State) (o : Outstanding), s.unreset = false → s.powered → s.outstanding = some o →
    step s = .next t →
    (s.pins.rst = true ∧ t.isReset) ∨
    (s.pins.rst = false ∧ o.left = 0 ∧ s.presented = some o.response ∧ s.sampled = true ∧
      (t.outstanding = none ∨ ∃ w r, s.accepts w ∧ t.answers (opOf w) r)) ∨
    ((s.pins.rst = true ∨ o.left ≠ 0) ∧ s.presented = none ∧
      t.outstanding = some { left := o.left - 1, response := o.response })

/-- R37, R109 to R112, R116, R117: presented one after another at the port, with any waits between them and
whatever the latencies, the commands give the responses and the final registers of the run that performs
them one atomic step after another. The schedule of edges counts the latency as log entry 3 says. -/
def Obligations.PortRunRefinesCommandRun : Prop :=
  ∀ (cs : List (Command × Nat)) (s : State), s.unreset = false → s.outstanding = none →
    s.host = schedule cs →
    ∃ t u rs, runCommands (cs.map Prod.fst) s = some (t, rs) ∧
      runEdges (schedule cs).length s = some (u, rs) ∧
      t.sameRegisters u ∧ u.outstanding = none ∧ u.host = []

/-- R100: a step of one unit of a system is a step of its own state and leaves every other unit as it was. A unit's place in the list is the model's (log entry 10). -/
def Obligations.UnitsShareNothing : Prop :=
  ∀ (y y' : System) (k : Nat), y.stepAt k = some (.next y') →
    (∃ s t, y.units[k]? = some s ∧ step s = .next t ∧ y'.units[k]? = some t) ∧
    ∀ j, j ≠ k → y'.units[j]? = y.units[j]?
end

