-- ==== Sys2Proof/Laws/State.lean ====
section
/-! SUPPORT. One lemma per field per update of the state, so that no proof unfolds a record update. -/

namespace Sys2Proof.Machine

@[simp] theorem State.setSize_size (s : State) (v : Half) : (s.setSize v).size = v := rfl
@[simp] theorem State.setSize_mtype (s : State) (v : Half) : (s.setSize v).mtype = s.mtype := rfl
@[simp] theorem State.setSize_id (s : State) (v : Half) : (s.setSize v).id = s.id := rfl
@[simp] theorem State.setSize_outstanding (s : State) (v : Half) : (s.setSize v).outstanding = s.outstanding := rfl
@[simp] theorem State.setSize_rstCount (s : State) (v : Half) : (s.setSize v).rstCount = s.rstCount := rfl
@[simp] theorem State.setSize_unreset (s : State) (v : Half) : (s.setSize v).unreset = s.unreset := rfl
@[simp] theorem State.setSize_host (s : State) (v : Half) : (s.setSize v).host = s.host := rfl
@[simp] theorem State.setSize_draws (s : State) (v : Half) : (s.setSize v).draws = s.draws := rfl

@[simp] theorem State.setMtype_size (s : State) (v : Byte) : (s.setMtype v).size = s.size := rfl
@[simp] theorem State.setMtype_mtype (s : State) (v : Byte) : (s.setMtype v).mtype = v := rfl
@[simp] theorem State.setMtype_id (s : State) (v : Byte) : (s.setMtype v).id = s.id := rfl
@[simp] theorem State.setMtype_outstanding (s : State) (v : Byte) : (s.setMtype v).outstanding = s.outstanding := rfl
@[simp] theorem State.setMtype_rstCount (s : State) (v : Byte) : (s.setMtype v).rstCount = s.rstCount := rfl
@[simp] theorem State.setMtype_unreset (s : State) (v : Byte) : (s.setMtype v).unreset = s.unreset := rfl
@[simp] theorem State.setMtype_host (s : State) (v : Byte) : (s.setMtype v).host = s.host := rfl
@[simp] theorem State.setMtype_draws (s : State) (v : Byte) : (s.setMtype v).draws = s.draws := rfl

@[simp] theorem State.setId_size (s : State) (v : Word) : (s.setId v).size = s.size := rfl
@[simp] theorem State.setId_mtype (s : State) (v : Word) : (s.setId v).mtype = s.mtype := rfl
@[simp] theorem State.setId_id (s : State) (v : Word) : (s.setId v).id = v := rfl
@[simp] theorem State.setId_outstanding (s : State) (v : Word) : (s.setId v).outstanding = s.outstanding := rfl
@[simp] theorem State.setId_rstCount (s : State) (v : Word) : (s.setId v).rstCount = s.rstCount := rfl
@[simp] theorem State.setId_unreset (s : State) (v : Word) : (s.setId v).unreset = s.unreset := rfl
@[simp] theorem State.setId_host (s : State) (v : Word) : (s.setId v).host = s.host := rfl
@[simp] theorem State.setId_draws (s : State) (v : Word) : (s.setId v).draws = s.draws := rfl

@[simp] theorem State.complete_size (s : State) (op : Byte) (r : Response) : (s.complete op r).size = s.size := rfl
@[simp] theorem State.complete_mtype (s : State) (op : Byte) (r : Response) : (s.complete op r).mtype = s.mtype := rfl
@[simp] theorem State.complete_id (s : State) (op : Byte) (r : Response) : (s.complete op r).id = s.id := rfl
@[simp] theorem State.complete_outstanding (s : State) (op : Byte) (r : Response) : (s.complete op r).outstanding = some { left := Config.extraLatency op, response := r } := rfl
@[simp] theorem State.complete_rstCount (s : State) (op : Byte) (r : Response) : (s.complete op r).rstCount = s.rstCount := rfl
@[simp] theorem State.complete_unreset (s : State) (op : Byte) (r : Response) : (s.complete op r).unreset = s.unreset := rfl
@[simp] theorem State.complete_host (s : State) (op : Byte) (r : Response) : (s.complete op r).host = s.host := rfl
@[simp] theorem State.complete_draws (s : State) (op : Byte) (r : Response) : (s.complete op r).draws = s.draws := rfl

@[simp] theorem State.respond_size (s : State) (op : Byte) (v : Word) : (s.respond op v).size = s.size := rfl
@[simp] theorem State.respond_mtype (s : State) (op : Byte) (v : Word) : (s.respond op v).mtype = s.mtype := rfl
@[simp] theorem State.respond_id (s : State) (op : Byte) (v : Word) : (s.respond op v).id = s.id := rfl
@[simp] theorem State.respond_outstanding (s : State) (op : Byte) (v : Word) : (s.respond op v).outstanding = some { left := Config.extraLatency op, response := { status := .ok, result := v, snk := none } } := rfl
@[simp] theorem State.respond_rstCount (s : State) (op : Byte) (v : Word) : (s.respond op v).rstCount = s.rstCount := rfl
@[simp] theorem State.respond_unreset (s : State) (op : Byte) (v : Word) : (s.respond op v).unreset = s.unreset := rfl
@[simp] theorem State.respond_host (s : State) (op : Byte) (v : Word) : (s.respond op v).host = s.host := rfl
@[simp] theorem State.respond_draws (s : State) (op : Byte) (v : Word) : (s.respond op v).draws = s.draws := rfl

@[simp] theorem State.respondSnk_size (s : State) (op : Byte) (w : Window) : (s.respondSnk op w).size = s.size := rfl
@[simp] theorem State.respondSnk_mtype (s : State) (op : Byte) (w : Window) : (s.respondSnk op w).mtype = s.mtype := rfl
@[simp] theorem State.respondSnk_id (s : State) (op : Byte) (w : Window) : (s.respondSnk op w).id = s.id := rfl
@[simp] theorem State.respondSnk_outstanding (s : State) (op : Byte) (w : Window) : (s.respondSnk op w).outstanding = some { left := Config.extraLatency op, response := { status := .ok, result := 0, snk := some w } } := rfl
@[simp] theorem State.respondSnk_rstCount (s : State) (op : Byte) (w : Window) : (s.respondSnk op w).rstCount = s.rstCount := rfl
@[simp] theorem State.respondSnk_unreset (s : State) (op : Byte) (w : Window) : (s.respondSnk op w).unreset = s.unreset := rfl
@[simp] theorem State.respondSnk_host (s : State) (op : Byte) (w : Window) : (s.respondSnk op w).host = s.host := rfl
@[simp] theorem State.respondSnk_draws (s : State) (op : Byte) (w : Window) : (s.respondSnk op w).draws = s.draws := rfl

@[simp] theorem State.raise_size (s : State) (op : Byte) (e : Status) : (s.raise op e).size = s.size := rfl
@[simp] theorem State.raise_mtype (s : State) (op : Byte) (e : Status) : (s.raise op e).mtype = s.mtype := rfl
@[simp] theorem State.raise_id (s : State) (op : Byte) (e : Status) : (s.raise op e).id = s.id := rfl
@[simp] theorem State.raise_outstanding (s : State) (op : Byte) (e : Status) : (s.raise op e).outstanding = some { left := Config.extraLatency op, response := { status := e, result := 0, snk := none } } := rfl
@[simp] theorem State.raise_rstCount (s : State) (op : Byte) (e : Status) : (s.raise op e).rstCount = s.rstCount := rfl
@[simp] theorem State.raise_unreset (s : State) (op : Byte) (e : Status) : (s.raise op e).unreset = s.unreset := rfl
@[simp] theorem State.raise_host (s : State) (op : Byte) (e : Status) : (s.raise op e).host = s.host := rfl
@[simp] theorem State.raise_draws (s : State) (op : Byte) (e : Status) : (s.raise op e).draws = s.draws := rfl

@[simp] theorem State.elapse_size (s : State) : (s.elapse).size = s.size := rfl
@[simp] theorem State.elapse_mtype (s : State) : (s.elapse).mtype = s.mtype := rfl
@[simp] theorem State.elapse_id (s : State) : (s.elapse).id = s.id := rfl
@[simp] theorem State.elapse_outstanding (s : State) : (s.elapse).outstanding = s.outstanding.bind Outstanding.tick := rfl
@[simp] theorem State.elapse_rstCount (s : State) : (s.elapse).rstCount = s.rstCount := rfl
@[simp] theorem State.elapse_unreset (s : State) : (s.elapse).unreset = s.unreset := rfl
@[simp] theorem State.elapse_host (s : State) : (s.elapse).host = s.host := rfl
@[simp] theorem State.elapse_draws (s : State) : (s.elapse).draws = s.draws := rfl

@[simp] theorem State.elapseHeld_size (s : State) : (s.elapseHeld).size = s.size := rfl
@[simp] theorem State.elapseHeld_mtype (s : State) : (s.elapseHeld).mtype = s.mtype := rfl
@[simp] theorem State.elapseHeld_id (s : State) : (s.elapseHeld).id = s.id := rfl
@[simp] theorem State.elapseHeld_outstanding (s : State) : (s.elapseHeld).outstanding = s.outstanding.map Outstanding.hold := rfl
@[simp] theorem State.elapseHeld_rstCount (s : State) : (s.elapseHeld).rstCount = s.rstCount := rfl
@[simp] theorem State.elapseHeld_unreset (s : State) : (s.elapseHeld).unreset = s.unreset := rfl
@[simp] theorem State.elapseHeld_host (s : State) : (s.elapseHeld).host = s.host := rfl
@[simp] theorem State.elapseHeld_draws (s : State) : (s.elapseHeld).draws = s.draws := rfl

@[simp] theorem State.takeReset_size (s : State) : (s.takeReset).size = 0x0010 := rfl
@[simp] theorem State.takeReset_mtype (s : State) : (s.takeReset).mtype = 0x00 := rfl
@[simp] theorem State.takeReset_id (s : State) : (s.takeReset).id = 0x00000000 := rfl
@[simp] theorem State.takeReset_outstanding (s : State) : (s.takeReset).outstanding = none := rfl
@[simp] theorem State.takeReset_rstCount (s : State) : (s.takeReset).rstCount = s.rstCount := rfl
@[simp] theorem State.takeReset_unreset (s : State) : (s.takeReset).unreset = false := rfl
@[simp] theorem State.takeReset_host (s : State) : (s.takeReset).host = s.host := rfl
@[simp] theorem State.takeReset_draws (s : State) : (s.takeReset).draws = s.draws := rfl

@[simp] theorem State.scramble_size (s : State) : (s.scramble).size = Config.freeSize s.draws := rfl
@[simp] theorem State.scramble_mtype (s : State) : (s.scramble).mtype = Config.freeMtype s.draws := rfl
@[simp] theorem State.scramble_id (s : State) : (s.scramble).id = Config.freeId s.draws := rfl
@[simp] theorem State.scramble_outstanding (s : State) : (s.scramble).outstanding = (Config.freeBusy s.draws).map fun k => { left := k, response := freeResponse s.draws } := rfl
@[simp] theorem State.scramble_rstCount (s : State) : (s.scramble).rstCount = s.rstCount := rfl
@[simp] theorem State.scramble_unreset (s : State) : (s.scramble).unreset = s.unreset := rfl
@[simp] theorem State.scramble_host (s : State) : (s.scramble).host = s.host := rfl
@[simp] theorem State.scramble_draws (s : State) : (s.scramble).draws = s.draws := rfl

@[simp] theorem State.powerUp_size (s : State) : (s.powerUp).size = Config.freeSize s.draws := rfl
@[simp] theorem State.powerUp_mtype (s : State) : (s.powerUp).mtype = Config.freeMtype s.draws := rfl
@[simp] theorem State.powerUp_id (s : State) : (s.powerUp).id = Config.freeId s.draws := rfl
@[simp] theorem State.powerUp_outstanding (s : State) : (s.powerUp).outstanding = (Config.freeBusy s.draws).map fun k => { left := k, response := freeResponse s.draws } := rfl
@[simp] theorem State.powerUp_rstCount (s : State) : (s.powerUp).rstCount = s.rstCount := rfl
@[simp] theorem State.powerUp_unreset (s : State) : (s.powerUp).unreset = true := rfl
@[simp] theorem State.powerUp_host (s : State) : (s.powerUp).host = s.host := rfl
@[simp] theorem State.powerUp_draws (s : State) : (s.powerUp).draws = s.draws := rfl

@[simp] theorem State.advance_size (s : State) : (s.advance).size = s.size := rfl
@[simp] theorem State.advance_mtype (s : State) : (s.advance).mtype = s.mtype := rfl
@[simp] theorem State.advance_id (s : State) : (s.advance).id = s.id := rfl
@[simp] theorem State.advance_outstanding (s : State) : (s.advance).outstanding = s.outstanding := rfl
@[simp] theorem State.advance_rstCount (s : State) : (s.advance).rstCount = if s.pins.rst then s.rstCount + 1 else 0 := rfl
@[simp] theorem State.advance_unreset (s : State) : (s.advance).unreset = s.unreset := rfl
@[simp] theorem State.advance_host (s : State) : (s.advance).host = s.host.tail := rfl
@[simp] theorem State.advance_draws (s : State) : (s.advance).draws = s.draws + 1 := rfl

@[simp] theorem State.offer_size (s : State) (c : Command) : (s.offer c).size = s.size := rfl
@[simp] theorem State.offer_mtype (s : State) (c : Command) : (s.offer c).mtype = s.mtype := rfl
@[simp] theorem State.offer_id (s : State) (c : Command) : (s.offer c).id = s.id := rfl
@[simp] theorem State.offer_outstanding (s : State) (c : Command) : (s.offer c).outstanding = none := rfl
@[simp] theorem State.offer_rstCount (s : State) (c : Command) : (s.offer c).rstCount = s.rstCount := rfl
@[simp] theorem State.offer_unreset (s : State) (c : Command) : (s.offer c).unreset = false := rfl
@[simp] theorem State.offer_host (s : State) (c : Command) : (s.offer c).host = .clock (commandPins c) true :: s.host := rfl
@[simp] theorem State.offer_draws (s : State) (c : Command) : (s.offer c).draws = s.draws := rfl

@[simp] theorem Outstanding.hold_left (o : Outstanding) : o.hold.left = o.left - 1 := rfl
@[simp] theorem Outstanding.hold_response (o : Outstanding) : o.hold.response = o.response := rfl

/-! The input signals are read from `host` alone. -/

theorem State.pins_of_host {s t : State} (h : t.host = s.host) : t.pins = s.pins := by
  simp only [State.pins, h]

theorem State.source_of_host {s t : State} (h : t.host = s.host) : t.source = s.source := by
  simp only [State.source, State.pins_of_host h]

theorem State.headerBytes_of_registers {s t : State} (h1 : t.size = s.size) (h2 : t.mtype = s.mtype)
    (h3 : t.id = s.id) : t.headerBytes = s.headerBytes := by
  simp only [State.headerBytes, h1, h2, h3]

@[simp] theorem State.setSize_pins (s : State) (v : Half) : (s.setSize v).pins = s.pins := rfl
@[simp] theorem State.setMtype_pins (s : State) (v : Byte) : (s.setMtype v).pins = s.pins := rfl
@[simp] theorem State.setId_pins (s : State) (v : Word) : (s.setId v).pins = s.pins := rfl
@[simp] theorem State.complete_pins (s : State) (op : Byte) (r : Response) : (s.complete op r).pins = s.pins := rfl
@[simp] theorem State.respond_pins (s : State) (op : Byte) (v : Word) : (s.respond op v).pins = s.pins := rfl
@[simp] theorem State.respondSnk_pins (s : State) (op : Byte) (w : Window) : (s.respondSnk op w).pins = s.pins := rfl
@[simp] theorem State.raise_pins (s : State) (op : Byte) (e : Status) : (s.raise op e).pins = s.pins := rfl
@[simp] theorem State.elapse_pins (s : State) : (s.elapse).pins = s.pins := rfl
@[simp] theorem State.elapseHeld_pins (s : State) : (s.elapseHeld).pins = s.pins := rfl
@[simp] theorem State.takeReset_pins (s : State) : (s.takeReset).pins = s.pins := rfl
@[simp] theorem State.scramble_pins (s : State) : (s.scramble).pins = s.pins := rfl
@[simp] theorem State.powerUp_pins (s : State) : (s.powerUp).pins = s.pins := rfl

@[simp] theorem State.offer_pins (s : State) (c : Command) : (s.offer c).pins = commandPins c := rfl
@[simp] theorem State.offer_sampled (s : State) (c : Command) : (s.offer c).sampled = true := rfl

end Sys2Proof.Machine
end

