-- ==== Sys2Proof/Laws/Windows.lean ====
section
/-! SUPPORT. What the window operations do: one lemma each, which later proofs cite. -/

namespace Sys2Proof.Machine

/-- `MemRead(addr, n)` gives the byte at addr+j in place j (`00_scope.md` R10). -/
theorem memRead_getElem (w : Window) (addr n j : Nat) (hj : j < n) :
    (memRead w addr n)[j]? = some ((w[addr + j]?).getD 0) := by
  simp [memRead, hj]

/-- The bytes that HDR_READ takes are the window's own (`40_header_transfer.md` R61). -/
theorem memRead_whole (w : Window) (j : Nat) (hj : j < 16) : (memRead w 0 16)[j]? = some w[j] := by
  simp [memRead_getElem w 0 16 j hj, hj]

/-- HDR_READ's register writes (R61): SIZE, MTYPE and ID from the bytes 0, 1, 2 and 4 to 7. -/
theorem loadHeader_memRead (s : State) (w : Window) :
    s.loadHeader (memRead w 0 16) =
      { s with size := be16 w[0] w[1], mtype := w[2], id := be32 w[4] w[5] w[6] w[7] } := by
  simp [State.loadHeader, memRead_whole, State.setSize, State.setMtype, State.setId]

/-- Sixteen bytes put into a window one after another are its bytes (R10). -/
theorem putBytes_sixteen (a b c d e f g h i j k l m n o p : Byte) :
    putBytes (putBytes (putBytes (putBytes (putBytes zeroWindow 0 [a, b]) 2 [c]) 3 [d]) 4 [e, f, g, h]) 8
        [i, j, k, l, m, n, o, p] = #v[a, b, c, d, e, f, g, h, i, j, k, l, m, n, o, p] := by
  apply Vector.toArray_inj.1
  apply Array.toList_inj.1
  simp [putBytes, zeroWindow, List.replicate]

/-- HDR_WRITE's 16 bytes (R65): each field most significant byte first, the reserved bytes 0. -/
theorem headerBytes_eq (s : State) :
    s.headerBytes = #v[s.size.extractLsb' 8 8, s.size.extractLsb' 0 8, s.mtype, 0,
      s.id.extractLsb' 24 8, s.id.extractLsb' 16 8, s.id.extractLsb' 8 8, s.id.extractLsb' 0 8,
      0, 0, 0, 0, 0, 0, 0, 0] := by
  have h1 : bigEndianBytes 2 s.size = [s.size.extractLsb' 8 8, s.size.extractLsb' 0 8] := rfl
  have h2 : bigEndianBytes 1 s.mtype = [s.mtype.extractLsb' 0 8] := rfl
  have h3 : bigEndianBytes 1 (0x00 : Byte) = [0] := rfl
  have h4 : bigEndianBytes 4 s.id =
    [s.id.extractLsb' 24 8, s.id.extractLsb' 16 8, s.id.extractLsb' 8 8, s.id.extractLsb' 0 8] := rfl
  have h5 : bigEndianBytes 8 (0 : BitVec 64) = [0, 0, 0, 0, 0, 0, 0, 0] := by decide
  have h6 : s.mtype.extractLsb' 0 8 = s.mtype := by simp
  simp only [State.headerBytes, memWrite, h1, h2, h3, h4, h5, h6, putBytes_sixteen]

/-- Packing undoes unpacking: the lanes of a bus in wire order are the bus (`30_encoding.md` R55). -/
theorem packWindow_unpackWindow (b : Bus) : packWindow (unpackWindow b) = b := by
  have join (lo hi n m : Nat) (h : hi = lo + n) :
      b.extractLsb' hi m ++ b.extractLsb' lo n = b.extractLsb' lo (m + n) :=
    BitVec.extractLsb'_append_extractLsb'_eq_extractLsb' h
  simp only [packWindow, unpackWindow, busByte, Vector.getElem_ofFn]
  simp [join]

end Sys2Proof.Machine
end

