-- ==== Sys2Proof/Laws/Exec.lean ====
section
/-! SUPPORT. Everything a command can do at the edge that accepts it, said once for each meaning. -/

namespace Sys2Proof.Machine

theorem execHdrRead_eq (arg : Word) (s : State) :
    execHdrRead arg s =
      if s.source.avail.toNat < 16 then .next (s.raise 0x01 .errShort)
      else .next
        (State.respond
          { s with
            size := be16 s.source.bytes[0] s.source.bytes[1]
            mtype := s.source.bytes[2]
            id := be32 s.source.bytes[4] s.source.bytes[5] s.source.bytes[6] s.source.bytes[7] }
          0x01 0) := by
  simp only [execHdrRead, sourceShort, loadHeader_memRead, decide_eq_true_eq]

theorem execSetPayloadSize_eq (n : Word) (s : State) :
    execSetPayloadSize n s =
      if 65519 < n.toNat then .next (s.raise 0x03 .errRange)
      else .next ((s.setSize ((n + 16).setWidth 16)).respond 0x03 0) := by
  simp only [execSetPayloadSize, payloadTooLong, decide_eq_true_eq]

theorem execSetMsgType_eq (t : Word) (s : State) :
    execSetMsgType t s =
      if 255 < t.toNat then .next (s.raise 0x06 .errRange)
      else .next ((s.setMtype (t.extractLsb' 0 8)).respond 0x06 0) := by
  simp only [execSetMsgType, typeTooLarge, decide_eq_true_eq]

/-- Every command completes in one of three ways: it raises its error and changes nothing, it answers
with a value after writing registers, or (HDR_WRITE) it answers with the sink window. -/
theorem exec_cases (i : Instr) (s : State) :
    (∃ e, e ≠ Status.ok ∧ exec i s = .next (s.raise i.mnemonic.opcode e)) ∨
      (∃ a b c v, exec i s =
        .next (State.respond { s with size := a, mtype := b, id := c } i.mnemonic.opcode v)) ∨
      (i.mnemonic = .hdrWrite ∧ exec i s = .next (s.respondSnk 0x02 s.headerBytes)) := by
  cases i with
  | hdrRead arg =>
    simp only [exec, execHdrRead_eq]
    split
    · exact .inl ⟨.errShort, by decide, rfl⟩
    · exact .inr (.inl ⟨_, _, _, _, rfl⟩)
  | hdrWrite arg => exact .inr (.inr ⟨rfl, rfl⟩)
  | setPayloadSize n =>
    simp only [exec, execSetPayloadSize_eq]
    split
    · exact .inl ⟨.errRange, by decide, rfl⟩
    · exact .inr (.inl ⟨_, s.mtype, s.id, _, rfl⟩)
  | getPayloadSize arg => exact .inr (.inl ⟨s.size, s.mtype, s.id, _, rfl⟩)
  | getFrameSize arg => exact .inr (.inl ⟨s.size, s.mtype, s.id, _, rfl⟩)
  | setMsgType t =>
    simp only [exec, execSetMsgType_eq]
    split
    · exact .inl ⟨.errRange, by decide, rfl⟩
    · exact .inr (.inl ⟨s.size, _, s.id, _, rfl⟩)
  | getMsgType arg => exact .inr (.inl ⟨s.size, s.mtype, s.id, _, rfl⟩)
  | setId id => exact .inr (.inl ⟨s.size, s.mtype, _, _, rfl⟩)
  | getId arg => exact .inr (.inl ⟨s.size, s.mtype, s.id, _, rfl⟩)

end Sys2Proof.Machine
end

