-- ==== Sys2Proof/Laws/Words.lean ====
section
/-! SUPPORT. The fields of a command word and of a big-endian integer, said once. -/

namespace Sys2Proof

/-- OP of a word made of two fields (`30_encoding.md` R44). -/
@[simp] theorem opOf_mkWord (op : Byte) (arg : Word) : opOf (mkWord op arg) = op := by
  ext k hk
  have h := BitVec.getLsbD_append (x := op) (y := arg) (i := 32 + k)
  simp at h
  simp [opOf, mkWord, h, BitVec.getLsbD_eq_getElem hk]

/-- ARG of a word made of two fields (R44). -/
@[simp] theorem argOf_mkWord (op : Byte) (arg : Word) : argOf (mkWord op arg) = arg := by
  ext k hk
  have h := BitVec.getLsbD_append (x := op) (y := arg) (i := k)
  simp [hk] at h
  simp [argOf, mkWord, h]

/-- A word is its two fields (R44). -/
@[simp] theorem mkWord_fields (w : CmdWord) : mkWord (opOf w) (argOf w) = w := by
  ext k hk
  have h := BitVec.getLsbD_append (x := opOf w) (y := argOf w) (i := k)
  rw [← BitVec.getLsbD_eq_getElem, ← BitVec.getLsbD_eq_getElem]
  refine h.trans ?_
  by_cases hk' : k < 32
  · simp [argOf, hk']
  · simp [opOf, hk', show k - 32 < 8 by omega, show 32 + (k - 32) = k by omega]

/-- A command on the input signals is its word (R44, R54). -/
@[simp] theorem Machine.pinsWord_commandPins (c : Command) : Machine.pinsWord (Machine.commandPins c) = c.word := by
  simp [Machine.pinsWord, Machine.commandPins]

/-- A 16-bit integer from its two bytes (`00_scope.md` R10). -/
theorem Machine.be16_toNat (a b : Byte) : (Machine.be16 a b).toNat = 256 * a.toNat + b.toNat := by
  have := b.isLt
  unfold Machine.be16
  rw [BitVec.toNat_append, ← Nat.shiftLeft_add_eq_or_of_lt (by omega), Nat.shiftLeft_eq]
  omega

/-- A 32-bit integer from its four bytes (R10). -/
theorem Machine.be32_toNat (a b c d : Byte) :
    (Machine.be32 a b c d).toNat = 16777216 * a.toNat + 65536 * b.toNat + 256 * c.toNat + d.toNat := by
  have := b.isLt
  have := c.isLt
  have := d.isLt
  unfold Machine.be32
  rw [BitVec.toNat_append, ← Nat.shiftLeft_add_eq_or_of_lt (by omega), Nat.shiftLeft_eq,
    BitVec.toNat_append, ← Nat.shiftLeft_add_eq_or_of_lt (by omega), Nat.shiftLeft_eq,
    BitVec.toNat_append, ← Nat.shiftLeft_add_eq_or_of_lt (by omega), Nat.shiftLeft_eq]
  omega

end Sys2Proof
end

