-- ==== Sys2Proof/Laws/PerInstr.lean ====
section
/-! SUPPORT. Statements for every instruction, one lemma per constructor. -/

namespace Sys2Proof.Laws.EncodeFields

/-- The two fields of a command's word are its opcode (`30_encoding.md` R49) and its ARG (R44). -/
def Statement (i : Sys2Proof.Instr) : Prop :=
  Sys2Proof.opOf (Sys2Proof.encode i) = i.mnemonic.opcode ∧ Sys2Proof.argOf (Sys2Proof.encode i) = i.arg

/-- The fields of a word made of two fields (R44). -/
theorem fields_mkWord (op : Sys2Proof.Byte) (arg : Sys2Proof.Word) :
    Sys2Proof.opOf (Sys2Proof.mkWord op arg) = op ∧ Sys2Proof.argOf (Sys2Proof.mkWord op arg) = arg :=
  ⟨Sys2Proof.opOf_mkWord op arg, Sys2Proof.argOf_mkWord op arg⟩

theorem hdrRead (arg : Sys2Proof.Word) : Statement (.hdrRead arg) := fields_mkWord _ _
theorem hdrWrite (arg : Sys2Proof.Word) : Statement (.hdrWrite arg) := fields_mkWord _ _
theorem setPayloadSize (n : Sys2Proof.Word) : Statement (.setPayloadSize n) := fields_mkWord _ _
theorem getPayloadSize (arg : Sys2Proof.Word) : Statement (.getPayloadSize arg) := fields_mkWord _ _
theorem getFrameSize (arg : Sys2Proof.Word) : Statement (.getFrameSize arg) := fields_mkWord _ _
theorem setMsgType (t : Sys2Proof.Word) : Statement (.setMsgType t) := fields_mkWord _ _
theorem getMsgType (arg : Sys2Proof.Word) : Statement (.getMsgType arg) := fields_mkWord _ _
theorem setId (id : Sys2Proof.Word) : Statement (.setId id) := fields_mkWord _ _
theorem getId (arg : Sys2Proof.Word) : Statement (.getId arg) := fields_mkWord _ _

end Sys2Proof.Laws.EncodeFields
end

