-- ==== Sys2Proof/Laws/Step.lean ====
section
/-! SUPPORT. Everything a step can do, said once. -/

namespace Sys2Proof.Machine

/-- Where an event has a next state, the step's next state is that one with the host gone on. -/
theorem step_eq_next_iff {s t : State} :
    step s = .next t ↔ ∃ u, hostStep s = .next u ∧ t = u.advance := by
  unfold step
  cases h : hostStep s with
  | next u => simp [thenAdvance, eq_comm]
  | fault f => simp [thenAdvance]
  | refused r => simp [thenAdvance]

/-- The events: a power cycle, a reset edge, an edge before the first reset, an accepted command, or an edge
at which time passes. -/
theorem hostStep_next_cases {s t : State} (h : hostStep s = .next t) :
    (t = s.powerUp ∧ ∃ rest, s.host = .powerCycle :: rest) ∨
      (s.pins.rst = true ∧ t = s.resetEdge) ∨
      (s.pins.rst = false ∧ s.unreset = true ∧ t = s.unresetEdge) ∨
      (s.pins.rst = false ∧ s.unreset = false ∧ s.busy = false ∧ s.pins.cmdValid = true ∧
        s.missesResponse = false ∧ acceptWord (pinsWord s.pins) s = .next t) ∨
      (s.pins.rst = false ∧ s.unreset = false ∧ s.pins.cmdValid = false ∧ t = s.elapse) := by
  have edge : clockEdge s = .next t →
      (s.pins.rst = true ∧ t = s.resetEdge) ∨
      (s.pins.rst = false ∧ s.unreset = true ∧ t = s.unresetEdge) ∨
      (s.pins.rst = false ∧ s.unreset = false ∧ s.busy = false ∧ s.pins.cmdValid = true ∧
        s.missesResponse = false ∧ acceptWord (pinsWord s.pins) s = .next t) ∨
      (s.pins.rst = false ∧ s.unreset = false ∧ s.pins.cmdValid = false ∧ t = s.elapse) := by
    intro h
    unfold clockEdge at h
    split at h
    · cases h
    · rename_i hp
      split at h
      · cases h
      · rename_i hm
        split at h
        · rename_i hr
          exact .inl ⟨hr, by simpa using h.symm⟩
        · rename_i hr
          split at h
          · rename_i hu
            exact .inr (.inl ⟨by simpa using hr, hu, by simpa using h.symm⟩)
          · rename_i hu
            split at h
            · rename_i hv
              refine .inr (.inr (.inl ⟨by simpa using hr, by simpa using hu, ?_, hv, by simpa using hm, h⟩))
              simpa [State.presentsUnready, State.cmdReady, hv, hr, hu] using hp
            · rename_i hv
              exact .inr (.inr (.inr ⟨by simpa using hr, by simpa using hu, by simpa using hv,
                by simpa using h.symm⟩))
  unfold hostStep at h
  split at h
  · rename_i rest hh
    exact .inl ⟨by simpa using h.symm, rest, hh⟩
  · cases h
  · exact .inr (edge h)

/-- What a reset edge can do (`70_reset_and_hazards.md` R103, R104). -/
theorem resetEdge_cases (s : State) :
    (s.resetTakes = true ∧ s.resetEdge = s.takeReset) ∨
      (s.resetTakes = false ∧ s.unreset = true ∧ s.resetEdge = s.scramble) ∨
      (s.resetTakes = false ∧ s.unreset = false ∧ s.resetEdge = s.elapseHeld) := by
  unfold State.resetEdge State.unresetEdge
  cases s.resetTakes <;> cases s.unreset <;> simp

/-- The port signals once a reset has taken effect and with `rst` = 0: `cmd_ready` is the opposite of busy
(R110), and `rsp_valid` shows that a response is due (R111). -/
theorem port_signals {s : State} (hr : s.pins.rst = false) (hu : s.unreset = false) :
    s.cmdReady = !s.busy ∧ s.presented = s.dueResponse := by
  simp [State.cmdReady, State.presented, hr, hu]

/-- While `rst` = 1 nothing is accepted and nothing is presented (R104). -/
theorem port_signals_of_rst {s : State} (hr : s.pins.rst = true) :
    s.cmdReady = false ∧ s.presented = none := by
  simp [State.cmdReady, State.presented, hr]

end Sys2Proof.Machine
end

