-- ==== Sys2Proof/Machine/AsmText.lean ====
section
/-! DEFINITION. The assembler's text (`30_encoding.md` R56 to R58), one line a time, as a list of
characters: from a line to an `AsmLine`, which `assemble` then checks. Log entry 18 says what of the
notation the model settles. -/

namespace Sys2Proof.Machine

/-- `;` starts a comment (R56). -/
def dropComment (l : List Char) : List Char := l.takeWhile (· ≠ ';')

/-- What separates the words of a line: blanks, and the commas of a pseudo-instruction's operands. -/
def isGap (c : Char) : Bool := c = ' ' || c = '\t' || c = ',' || c = '\r'

/-- The words of a line. `cur` holds the present word's characters, last first. -/
def wordsFrom (cur : List Char) : List Char → List (List Char)
  | [] => if cur = [] then [] else [cur.reverse]
  | c :: cs =>
    if isGap c then
      if cur = [] then wordsFrom [] cs else cur.reverse :: wordsFrom [] cs
    else wordsFrom (c :: cur) cs

/-- The words of a line, its comment left out. -/
def lineWords (l : List Char) : List (List Char) := wordsFrom [] (dropComment l)

/-- The capital of a small letter; mnemonics are case-insensitive (R56). -/
def capital (c : Char) : Char :=
  if 97 ≤ c.toNat && c.toNat ≤ 122 then Char.ofNat (c.toNat - 32) else c

/-- The value of a hexadecimal digit, a capital or a small letter. -/
def hexDigit (c : Char) : Option Nat :=
  let n := c.toNat
  if 48 ≤ n && n ≤ 57 then some (n - 48)
  else if 65 ≤ n && n ≤ 70 then some (n - 55)
  else if 97 ≤ n && n ≤ 102 then some (n - 87)
  else none

/-- The value of digits in a base, after `acc`. -/
def digitsFrom (base acc : Nat) : List Char → Option Nat
  | [] => some acc
  | c :: cs =>
    match hexDigit c with
    | some d => if d < base then digitsFrom base (acc * base + d) cs else none
    | none => none

/-- At least one digit. -/
def digits (base : Nat) : List Char → Option Nat
  | [] => none
  | cs => digitsFrom base 0 cs

/-- An unsigned decimal or `0x` hexadecimal integer (R56). -/
def number : List Char → Option Nat
  | '0' :: 'x' :: cs => digits 16 cs
  | cs => digits 10 cs

/-- A word `0xOO_AAAAAAAA` of the directive `.cmd` (R7, R56). -/
def cmdNumber : List Char → Option Nat
  | '0' :: 'x' :: h :: l :: '_' :: cs => if cs.length = 8 then digits 16 (h :: l :: cs) else none
  | _ => none

/-- The rest of a word after a key such as `src=`. -/
def afterKey (key : List Char) (w : List Char) : Option (List Char) :=
  if w.take key.length = key then some (w.drop key.length) else none

/-- One byte of a `src=` list: two hexadecimal digits, or `--` (R57). The key `src=` is followed at once by a byte: one
with nothing after it is refused, also where AVAIL = 0 asks for no byte. R57 does not say, DESIGN CHOICE (log entry
18). -/
def srcByte : List Char → Option (Option Byte)
  | ['-', '-'] => some none
  | [h, l] => (digits 16 [h, l]).map fun n => some (BitVec.ofNat 8 n)
  | _ => none

/-- The options of HDR_READ and HDR_RECV as they are read: ARG, the bytes so far, AVAIL, each `none`
until it is given. -/
structure SrcOptions where
  arg : Option Nat
  bytes : Option (List (Option Byte))
  avail : Option Nat
  deriving DecidableEq, Repr

/-- One word among the options. A bare byte goes on with the `src=` list that is open. Each option may
be given once. -/
def srcOption (o : SrcOptions) (inSrc : Bool) (w : List Char) : Option (SrcOptions × Bool) :=
  match afterKey ['a', 'r', 'g', '='] w, afterKey ['a', 'v', 'a', 'i', 'l', '='] w, afterKey ['s', 'r', 'c', '='] w with
  | some v, _, _ => if o.arg.isSome then none else (number v).map fun n => ({ o with arg := some n }, false)
  | _, some v, _ => if o.avail.isSome then none else (digits 10 v).map fun n => ({ o with avail := some n }, false)
  | _, _, some v => if o.bytes.isSome then none else (srcByte v).map fun b => ({ o with bytes := some [b] }, true)
  | none, none, none =>
    if inSrc then (srcByte w).map fun b => ({ o with bytes := some (o.bytes.getD [] ++ [b]) }, true) else none

/-- All the options of a line. -/
def srcOptions (o : SrcOptions) (inSrc : Bool) : List (List Char) → Option SrcOptions
  | [] => some o
  | w :: ws =>
    match srcOption o inSrc w with
    | some (o', b) => srcOptions o' b ws
    | none => none

/-- The first word of a line. -/
inductive Head where
  | cmd (m : Mnemonic)
  | hdrSet | hdrBuild | hdrRecv | raw
  deriving DecidableEq, Repr

/-- The mnemonics of R49, case-insensitive by R56, the pseudo-instructions of R58 and `.cmd` (R56). R56 says nothing
of the case of the last two: that they are read in any case as well is the model's, DESIGN CHOICE (log entry 18). -/
def headOf (w : List Char) : Option Head :=
  match w.map capital with
  | ['H', 'D', 'R', '_', 'R', 'E', 'A', 'D'] => some (.cmd .hdrRead)
  | ['H', 'D', 'R', '_', 'W', 'R', 'I', 'T', 'E'] => some (.cmd .hdrWrite)
  | ['S', 'E', 'T', '_', 'P', 'A', 'Y', 'L', 'O', 'A', 'D', '_', 'S', 'I', 'Z', 'E'] => some (.cmd .setPayloadSize)
  | ['G', 'E', 'T', '_', 'P', 'A', 'Y', 'L', 'O', 'A', 'D', '_', 'S', 'I', 'Z', 'E'] => some (.cmd .getPayloadSize)
  | ['G', 'E', 'T', '_', 'F', 'R', 'A', 'M', 'E', '_', 'S', 'I', 'Z', 'E'] => some (.cmd .getFrameSize)
  | ['S', 'E', 'T', '_', 'M', 'S', 'G', '_', 'T', 'Y', 'P', 'E'] => some (.cmd .setMsgType)
  | ['G', 'E', 'T', '_', 'M', 'S', 'G', '_', 'T', 'Y', 'P', 'E'] => some (.cmd .getMsgType)
  | ['S', 'E', 'T', '_', 'I', 'D'] => some (.cmd .setId)
  | ['G', 'E', 'T', '_', 'I', 'D'] => some (.cmd .getId)
  | ['H', 'D', 'R', '_', 'S', 'E', 'T'] => some .hdrSet
  | ['H', 'D', 'R', '_', 'B', 'U', 'I', 'L', 'D'] => some .hdrBuild
  | ['H', 'D', 'R', '_', 'R', 'E', 'C', 'V'] => some .hdrRecv
  | ['.', 'C', 'M', 'D'] => some .raw
  | _ => none

/-- Whether a command uses its ARG (R45); for the others ARG is 0 unless `arg=` sets it (R56). -/
def usesArg : Mnemonic → Bool
  | .setPayloadSize => true
  | .setMsgType => true
  | .setId => true
  | _ => false

/-- A command's line from its operand words (R56, R57). -/
def commandLine (m : Mnemonic) (ws : List (List Char)) : Option AsmLine :=
  match m with
  | .hdrRead =>
    (srcOptions { arg := none, bytes := none, avail := none } false ws).map fun o =>
      .read (o.arg.getD 0) (o.bytes.getD []) (o.avail.getD 16)
  | _ =>
    match ws with
    | [] => if usesArg m then none else some (.plain m 0)
    | [w] =>
      if usesArg m then (number w).map (AsmLine.plain m)
      else ((afterKey ['a', 'r', 'g', '='] w).bind number).map (AsmLine.plain m)
    | _ => none

/-- Three numbers. -/
def threeNumbers : List (List Char) → Option (Nat × Nat × Nat)
  | [a, b, c] =>
    match number a, number b, number c with
    | some x, some y, some z => some (x, y, z)
    | _, _, _ => none
  | _ => none

/-- A line of assembler text, `none` where it is no line of the notation. -/
def readLine (l : List Char) : Option AsmLine :=
  match lineWords l with
  | [] => some .blank
  | w :: ws =>
    match headOf w with
    | some (.cmd m) => commandLine m ws
    | some .hdrSet => (threeNumbers ws).map fun p => .hdrSet p.1 p.2.1 p.2.2
    | some .hdrBuild => (threeNumbers ws).map fun p => .hdrBuild p.1 p.2.1 p.2.2
    | some .hdrRecv =>
      match srcOptions { arg := none, bytes := none, avail := none } false ws with
      | some o => if o.arg.isSome then none else some (.hdrRecv (o.bytes.getD []) (o.avail.getD 16))
      | none => none
    | some .raw =>
      match ws with
      | [v] => (cmdNumber v).map AsmLine.raw
      | _ => none
    | none => none

/-- The commands of a line of assembler text; `none` where the assembler refuses it. -/
def assembleLine (l : List Char) : Option (List Command) := (readLine l).bind assemble

/-- The commands of a text, given as its lines, in order; `none` where the assembler refuses a line. -/
def assembleText : List (List Char) → Option (List Command)
  | [] => some []
  | l :: ls =>
    match assembleLine l, assembleText ls with
    | some a, some b => some (a ++ b)
    | _, _ => none

end Sys2Proof.Machine
end

