-- ==== Sys2Proof/Tests/Slice0.lean ====
section
/-! SUPPORT. Small tests, each expected result taken from `95_test_vectors.md` or worked out by hand from the
rule named, and for each statement with hypotheses a state and operands that meet them. -/

namespace Sys2Proof.Tests

open Sys2Proof.Machine

/-- The reset state with other registers. -/
def regs (size : Half) (mtype : Byte) (id : Word) : State :=
  { State.reset with size := size, mtype := mtype, id := id }

/-- A state at whose next edge these signals stand. -/
def at' (s : State) (p : Pins) : State := { s with host := [.clock p true] }

/-- A source window on the ports. -/
def src (s : State) (avail : Avail) (bytes : Bus) : State :=
  at' s { idlePins with cmdValid := true, cmdOp := 1, srcAvail := avail, srcBytes := bytes }

/-- What an outcome shows: the registers and the response. -/
def shows : Host.Outcome State Fault Refusal → Option (Half × Byte × Word × Option Response)
  | .next t => some (t.size, t.mtype, t.id, t.outstanding.map Outstanding.response)
  | _ => none

/-! ## Well-formedness: an ill-formed term for each check -/

theorem test_wf_argFits : (AsmLine.plain .setId 4294967296).wellFormed = false := by decide
theorem test_wf_argFits_boundary : (AsmLine.plain .setId 4294967295).wellFormed = true := by decide
theorem test_wf_plain_is_not_hdrRead : (AsmLine.plain .hdrRead 0).wellFormed = false := by decide
theorem test_wf_wordFits : (AsmLine.raw 1099511627776).wellFormed = false := by decide
theorem test_wf_availFits : (AsmLine.hdrRecv (List.replicate 16 (some 0)) 32).wellFormed = false := by decide
theorem test_wf_srcFits_missing_byte : (AsmLine.read 0 (List.replicate 15 (some 0)) 16).wellFormed = false := by decide
theorem test_wf_srcFits_dashes : (AsmLine.read 0 [some 0, none, some 0] 3).wellFormed = false := by decide
theorem test_wf_srcFits_too_many : (AsmLine.read 0 (List.replicate 17 (some 0)) 16).wellFormed = false := by decide
theorem test_wf_srcFits_short : (AsmLine.read 0 [some 0, some 0x20, some 9] 3).wellFormed = true := by decide
theorem test_wf_hdrSet : (AsmLine.hdrSet 7 42 4294967296).wellFormed = false := by decide
theorem test_wf_hdrBuild : (AsmLine.hdrBuild 7 4294967296 100).wellFormed = false := by decide

/-! ## Decoding: a word of each command, written out from R44 and R49 (OP byte, then ARG) -/

theorem test_decode_hdrRead : decode 0x01FFFFFFFF#40 = .ok (.hdrRead 0xFFFFFFFF) := by decide
theorem test_decode_hdrWrite : decode 0x0200000000#40 = .ok (.hdrWrite 0) := by decide
theorem test_decode_setPayloadSize : decode 0x030000FFEF#40 = .ok (.setPayloadSize 65519) := by decide
theorem test_decode_getPayloadSize : decode 0x0412345678#40 = .ok (.getPayloadSize 0x12345678) := by decide
theorem test_decode_getFrameSize : decode 0x05FFFFFFFF#40 = .ok (.getFrameSize 0xFFFFFFFF) := by decide
theorem test_decode_setMsgType : decode 0x0600000109#40 = .ok (.setMsgType 0x109) := by decide
theorem test_decode_getMsgType : decode 0x0700000000#40 = .ok (.getMsgType 0) := by decide
theorem test_decode_setId : decode 0x080000002A#40 = .ok (.setId 42) := by decide
theorem test_decode_getId : decode 0x0900000001#40 = .ok (.getId 1) := by decide
theorem test_decode_zero_word : decode 0#40 = .error (.reservedOpcode 0) := by decide
theorem test_decode_0A : decode 0x0A00000000#40 = .error (.reservedOpcode 0x0A) := by decide
theorem test_decode_FF : decode 0xFFFFFFFFFF#40 = .error (.reservedOpcode 0xFF) := by decide
theorem test_encode_setId : encode (.setId 42) = 0x080000002A#40 := by decide
theorem test_decodeTableWord : decodeTableWord 40 0x0300000064 = some (.setPayloadSize 100) := by decide

/-! ## Commands: the vectors of `95_test_vectors.md` -/

/-- VH1 -/
theorem test_hdrRead_loads :
    shows (exec (.hdrRead 0) (src State.reset 16 0x1234ABCDDEADBEEF0102030405060708)) =
      some (0x1234, 0xAB, 0xDEADBEEF, some (okResponse 0)) := by decide

/-- VH3: the start state's registers stay. -/
theorem test_hdrRead_short :
    shows (exec (.hdrRead 0) (src (regs 0x0074 0x07 0x2A) 15 0x1234ABCDDEADBEEF0102030405060700)) =
      some (0x0074, 0x07, 0x2A, some (failResponse .errShort)) := by decide

/-- VW2 -/
theorem test_hdrWrite_bytes :
    shows (exec (.hdrWrite 0) (regs 0x1234 0xAB 0xDEADBEEF)) = some (0x1234, 0xAB, 0xDEADBEEF,
      some (snkResponse #v[0x12, 0x34, 0xAB, 0, 0xDE, 0xAD, 0xBE, 0xEF, 0, 0, 0, 0, 0, 0, 0, 0])) := by decide

/-- VS3 -/
theorem test_setPayloadSize_max :
    shows (exec (.setPayloadSize 65519) State.reset) = some (0xFFFF, 0, 0, some (okResponse 0)) := by decide

/-- VS5: not read as 5. -/
theorem test_setPayloadSize_wide :
    shows (exec (.setPayloadSize 0x00010005) (regs 0x0074 0x07 0x2A)) =
      some (0x0074, 0x07, 0x2A, some (failResponse .errRange)) := by decide

/-- VG2 -/
theorem test_getPayloadSize :
    shows (exec (.getPayloadSize 0) (regs 0x0074 0x07 0x2A)) =
      some (0x0074, 0x07, 0x2A, some (okResponse 0x64)) := by decide

/-- VG4: modulo 2^16. -/
theorem test_getPayloadSize_below_16 :
    shows (exec (.getPayloadSize 0) (regs 0x0005 0x01 1)) =
      some (0x0005, 0x01, 1, some (okResponse 0x0000FFF5)) := by decide

/-- VF3 -/
theorem test_getFrameSize :
    shows (exec (.getFrameSize 0) (regs 0xFFFF 0 0)) = some (0xFFFF, 0, 0, some (okResponse 0xFFFF)) := by decide

/-- VT3 -/
theorem test_setMsgType_255 :
    shows (exec (.setMsgType 255) State.reset) = some (0x0010, 0xFF, 0, some (okResponse 0)) := by decide

/-- VT4: not read as 0. -/
theorem test_setMsgType_256 :
    shows (exec (.setMsgType 256) (regs 0x0074 0x07 0x2A)) =
      some (0x0074, 0x07, 0x2A, some (failResponse .errRange)) := by decide

/-- VM1 -/
theorem test_getMsgType :
    shows (exec (.getMsgType 0) (regs 0x1234 0xAB 0xDEADBEEF)) =
      some (0x1234, 0xAB, 0xDEADBEEF, some (okResponse 0xAB)) := by decide

/-- VI2 -/
theorem test_setId :
    shows (exec (.setId 0xFFFFFFFF) State.reset) = some (0x0010, 0, 0xFFFFFFFF, some (okResponse 0)) := by decide

/-- VD2 -/
theorem test_getId :
    shows (exec (.getId 1) (regs 0x0010 0 0x80000000)) =
      some (0x0010, 0, 0x80000000, some (okResponse 0x80000000)) := by decide

/-- VX4: bit 39 set, so the source window is not read. -/
theorem test_reserved :
    shows (acceptWord 0x8100000064 (src (regs 0x0074 0x07 0x2A) 16 0)) =
      some (0x0074, 0x07, 0x2A, some (failResponse .errIllegal)) := by decide

/-! ## Steps -/

/-- A placed SET_ID 42 is run by the next step (VI1). -/
theorem test_step_runs_placed_word :
    shows (step (State.reset.withFetchWord 40 0x080000002A)) =
      some (0x0010, 0, 42, some (okResponse 0)) := by decide

/-- A placed HDR_READ is offered a complete window of zero bytes: VH6. -/
theorem test_step_runs_placed_hdrRead :
    shows (step (State.reset.withFetchWord 40 0x0100000000)) = some (0, 0, 0, some (okResponse 0)) := by decide

/-- With nothing to do the state stays (R102). -/
theorem test_step_idle : shows (step (regs 0x1234 0xAB 5)) = some (0x1234, 0xAB, 5, none) := by decide

/-- Presenting while busy is refused (R42, I12). -/
theorem test_step_refuses_presenting_while_busy :
    (match step (at' { State.reset with outstanding := some { left := 1, response := okResponse 0 } }
        { idlePins with cmdValid := true, cmdOp := 9 }) with
      | .refused r => some r
      | _ => none) = some Refusal.presentedWhileNotReady := by decide

/-- In the cycle of the response a command is accepted (R110). -/
theorem test_step_accepts_with_the_response :
    shows (step (at' { State.reset with outstanding := some { left := 0, response := okResponse 0 } }
        { idlePins with cmdValid := true, cmdOp := 5 })) = some (0x0010, 0, 0, some (okResponse 0x10)) := by decide

/-- A response that is not sampled is refused (R42, I12). -/
theorem test_step_refuses_missed_response :
    (match step { State.reset with
        outstanding := some { left := 0, response := okResponse 0 }, host := [.clock idlePins false] } with
      | .refused r => some r
      | _ => none) = some Refusal.missedResponse := by decide

/-! ## Assembler text (R56 to R58) -/

/-- `set_id 0x2A ; comment`: mnemonics are case-insensitive. -/
theorem test_asm_setId : readLine ['s', 'e', 't', '_', 'i', 'd', ' ', '0', 'x', '2', 'A', ' ', ';', ' ', 'c'] =
    some (.plain .setId 42) := by decide

/-- `GET_ID` takes ARG 0, and `GET_ID arg=1` sets it. -/
theorem test_asm_getId : readLine ['G', 'E', 'T', '_', 'I', 'D'] = some (.plain .getId 0) ∧
    readLine ['G', 'E', 'T', '_', 'I', 'D', ' ', 'a', 'r', 'g', '=', '1'] = some (.plain .getId 1) := by decide

/-- `HDR_READ src=00 20 09 -- avail=3` -/
theorem test_asm_hdrRead : readLine ['H', 'D', 'R', '_', 'R', 'E', 'A', 'D', ' ', 's', 'r', 'c', '=', '0', '0', ' ',
    '2', '0', ' ', '0', '9', ' ', '-', '-', ' ', 'a', 'v', 'a', 'i', 'l', '=', '3'] =
      some (.read 0 [some 0x00, some 0x20, some 0x09, none] 3) := by decide

/-- `.cmd 0x0A_00000000` -/
theorem test_asm_raw : readLine ['.', 'c', 'm', 'd', ' ', '0', 'x', '0', 'A', '_', '0', '0', '0', '0', '0', '0', '0', '0'] =
    some (.raw 0x0A00000000) := by decide

/-- `HDR_SET 7, 42, 100` makes the words of VQ1. -/
theorem test_asm_hdrSet : (assembleLine ['H', 'D', 'R', '_', 'S', 'E', 'T', ' ', '7', ',', ' ', '4', '2', ',', ' ',
    '1', '0', '0']).map (List.map Command.word) = some [0x0600000007, 0x080000002A, 0x0300000064] := by decide

end Sys2Proof.Tests
end

