-- ==== Sys2Proof/Tests/Witnesses.lean ====
section
/-! SUPPORT. For each statement with hypotheses, a state and operands that meet all of them together, at the
boundary of each clause. -/

namespace Sys2Proof.Tests

open Sys2Proof.Machine

/-- A header in flight: HDR_WRITE was accepted and is being answered. -/
def answering : State :=
  { regs 0x0074 0x07 0x2A with
    outstanding := some { left := 0, response := snkResponse (regs 0x0074 0x07 0x2A).headerBytes } }

/-- The host presents this word to the state right after reset. -/
def presenting (w : CmdWord) : State := State.reset.withFetchWord 40 w.toNat

theorem presenting_accepts_setId : (presenting 0x080000002A).accepts 0x080000002A :=
  ⟨by decide, by decide, by decide, by decide⟩

theorem presenting_powered (w : CmdWord) : (presenting w).powered := by
  intro rest h
  cases h

/-- A busy unit: an HDR_WRITE was accepted, and its response is one edge away. -/
def busyUnit : State :=
  { regs 0x0074 0x07 0x2A with
    outstanding := some { left := 1, response := snkResponse (regs 0x0074 0x07 0x2A).headerBytes } }

/-- The next edge is the RESET_MIN_CYCLES-th in a row with `rst` = 1. -/
def resetting (s : State) : State :=
  { s with rstCount := Config.extraResetCycles, host := [rstEdge] }

theorem resetting_powered (s : State) : (resetting s).powered := by
  intro rest h
  cases h

/-- The edge that completes a reset pulse resets, whatever the state before it (R103, R104). -/
theorem step_resetting (s : State) : step (resetting s) = .next (resetting s).takeReset.advance := by
  have hr : (resetting s).resetTakes = true := by
    simp [State.resetTakes, resetting, Config.resetMinCycles]
  have hp := port_signals_of_rst (s := resetting s) rfl
  rw [step_eq_next_iff]
  refine ⟨_, ?_, rfl⟩
  show clockEdge (resetting s) = _
  have hu : (resetting s).presentsUnready = false := rfl
  have hm : (resetting s).missesResponse = false := by simp [State.missesResponse, hp.2]
  have ht : (resetting s).pins.rst = true := rfl
  simp [clockEdge, hu, hm, ht, State.resetEdge, hr]

/-! ## Encoding -/

theorem witness_DecodeOfEncodeIsTheCommand : (Instr.setId 42).wellFormed = true := by decide
theorem witness_EncodeOfDecodeIsTheWord : decode 0x080000002A = .ok (.setId 42) := by decide
theorem witness_DecodeIsTotalByOpcode_first : 1 ≤ (opOf 0x0100000000).toNat ∧ (opOf 0x0100000000).toNat ≤ 9 := by decide
theorem witness_DecodeIsTotalByOpcode_last : 1 ≤ (opOf 0x0900000000).toNat ∧ (opOf 0x0900000000).toNat ≤ 9 := by decide
theorem witness_DecodeIsTotalByOpcode_zero : (opOf 0x00FFFFFFFF).toNat = 0 := by decide
theorem witness_DecodeIsTotalByOpcode_ten : 10 ≤ (opOf 0x0A00000000).toNat := by decide
theorem witness_BusPackingIsWireOrder : (0 : Nat) < 16 ∧ (15 : Nat) < 16 := by decide
theorem witness_AssemblerRefusesOnlyWideNumbers :
    Mnemonic.setMsgType ≠ .hdrRead ∧ 2 ^ 32 ≤ 4294967296 ∧ 4294967295 < 2 ^ 32 := by decide

/-! ## A step runs the accepted command -/

theorem witness_StepRunsTheAcceptedCommand :
    (presenting 0x080000002A).accepts 0x080000002A ∧ decode 0x080000002A = .ok (.setId 42) ∧
    ∃ t, exec (.setId 42) (presenting 0x080000002A) = .next t :=
  ⟨presenting_accepts_setId, by decide, _, rfl⟩

theorem witness_ReservedOpcodeIsAnsweredIllegal_zero :
    (presenting 0x0000000005).accepts 0x0000000005 ∧ (opOf 0x0000000005).toNat = 0 :=
  ⟨⟨by decide, by decide, by decide, by decide⟩, by decide⟩

theorem witness_ReservedOpcodeIsAnsweredIllegal_ten :
    (presenting 0x0A00000005).accepts 0x0A00000005 ∧ 10 ≤ (opOf 0x0A00000005).toNat :=
  ⟨⟨by decide, by decide, by decide, by decide⟩, by decide⟩

/-! ## What each command does -/

theorem witness_HdrReadLoadsOrFailsShort_16 : 16 ≤ (src State.reset 16 0).source.avail.toNat := by decide
theorem witness_HdrReadLoadsOrFailsShort_15 : (src State.reset 15 0).source.avail.toNat < 16 := by decide

/-- The two windows differ at the reserved offsets 3 and 8 only. -/
theorem witness_HdrReadIgnoresReservedBytes :
    let s := src State.reset 16 0x1234ABCDDEADBEEF0102030405060708
    let h := (src State.reset 16 0x1234AB00DEADBEEFFF02030405060708).host
    ({ s with host := h } : State).source.avail = s.source.avail ∧ 16 ≤ s.source.avail.toNat ∧
    (∀ (k : Nat) (hk : k < 16), k ≠ 3 → k < 8 →
      ({ s with host := h } : State).source.bytes[k] = s.source.bytes[k]) ∧
    ({ s with host := h } : State).source ≠ s.source := by decide

/-- Below 16 the windows need not agree anywhere. -/
theorem witness_HdrReadIgnoresReservedBytes_short :
    let s := src State.reset 15 0
    let h := (src State.reset 15 0xFF00000000000000000000000000000000).host
    ({ s with host := h } : State).source.avail = s.source.avail ∧ ¬ 16 ≤ s.source.avail.toNat := by decide

theorem witness_HeaderTransferIsIdempotent :
    (src (regs 1 2 3) 16 5).source = (src State.reset 16 5).source ∧
    16 ≤ (src State.reset 16 5).source.avail.toNat := by decide

theorem witness_HdrWriteSerializesTheRegisters : (8 : Nat) < 16 ∧ 8 ≤ 8 := by decide
theorem witness_SetPayloadSizeAddsHeaderOrFails_max : (65519 : Word).toNat ≤ 65519 := by decide
theorem witness_SetPayloadSizeAddsHeaderOrFails_above : 65519 < (65520 : Word).toNat := by decide
theorem witness_GetPayloadSizeTellsInvalidHeaders_15 : (regs 15 0 0).size.toNat < 16 := by decide
theorem witness_GetPayloadSizeTellsInvalidHeaders_16 : 16 ≤ (regs 16 0 0).size.toNat := by decide
theorem witness_SetMsgTypeStoresByteOrFails_255 : (255 : Word).toNat ≤ 255 := by decide
theorem witness_SetMsgTypeStoresByteOrFails_256 : 255 < (256 : Word).toNat := by decide

/-! ## All commands -/

theorem witness_CommandsWriteOnlyTheirRegisters :
    (∃ t, exec (.getId 0) State.reset = .next t) ∧ (Instr.getId 0).mnemonic ≠ .hdrRead ∧
    (Instr.getId 0).mnemonic ≠ .setPayloadSize ∧ (Instr.getId 0).mnemonic ≠ .setMsgType ∧
    (Instr.getId 0).mnemonic ≠ .setId := ⟨⟨_, rfl⟩, by decide⟩

theorem witness_FailedCommandChangesNothing :
    ∃ t o, acceptWord 0x0600000100 State.reset = .next t ∧ t.outstanding = some o ∧ o.response.status ≠ .ok :=
  ⟨State.reset.raise 0x06 .errRange, _, rfl, rfl, by decide⟩

theorem witness_EveryWordGetsItsResponse :
    opOf 0x0100000000 ≠ 0x04 ∧ opOf 0x0100000000 ≠ 0x05 ∧ opOf 0x0100000000 ≠ 0x07 ∧ opOf 0x0100000000 ≠ 0x09 ∧
    opOf 0x0400000000 = 0x04 ∧ opOf 0x0500000000 = 0x05 ∧ opOf 0x0700000000 = 0x07 := by decide

theorem witness_IgnoredArgHasNoEffect : (0x09 : Byte) ≠ 0x03 ∧ (0x09 : Byte) ≠ 0x06 ∧ (0x09 : Byte) ≠ 0x08 := by decide
theorem witness_OnlyHdrReadReadsTheSourceWindow : opOf 0x0200000000 ≠ 0x01 := by decide

/-- A command presented in the cycle of an ERR_RANGE response. -/
theorem witness_EarlierResponseHasNoEffect :
    ({ presenting 0x080000002A with outstanding := some { left := 0, response := failResponse .errRange } } :
      State).accepts 0x080000002A := ⟨by decide, by decide, by decide, by decide⟩

/-! ## Runs of commands -/

theorem witness_ReadThenWriteGivesTheBytes : (3 : Nat) < 16 ∧ (7 : Nat) < 16 ∧ (8 : Nat) < 16 := by decide
theorem witness_SetThenGetPayloadSize : (65519 : Word).toNat ≤ 65519 ∧ 65519 < (65520 : Word).toNat := by decide
theorem witness_SetThenGetTypeAndId : (255 : Word).toNat ≤ 255 ∧ 255 < (256 : Word).toNat := by decide

theorem witness_SettersCommute : (255 : Word).toNat ≤ 255 ∧ (65519 : Word).toNat ≤ 65519 ∧
    (hdrSet 255 42 65519).reverse.Perm (hdrSet 255 42 65519) :=
  ⟨by decide, by decide, List.reverse_perm _⟩

theorem witness_HdrSetIsNotAtomic : (255 : Word).toNat ≤ 255 ∧ 65519 < (65520 : Word).toNat := by decide
theorem witness_BuildThenReceiveGivesTheFields : (255 : Word).toNat ≤ 255 ∧ (65519 : Word).toNat ≤ 65519 := by decide

theorem witness_FailedCommandLeavesNoTrace :
    State.reset.outstanding = none ∧
    ∃ t, runCommand { word := 0x0A00000000, source := noSource } State.reset = some (t, failResponse .errIllegal) ∧
      (failResponse .errIllegal).status ≠ .ok := ⟨rfl, _, rfl, by decide⟩

/-- Two start states with nothing in common, and the three setters. -/
theorem witness_TrustedHeaderForgetsThePast :
    ∃ t t', runCommands (hdrSet 7 42 100) State.reset =
        some (t, [okResponse 0, okResponse 0, okResponse 0]) ∧
      runCommands (hdrSet 7 42 100) (regs 5 6 7) = some (t', [okResponse 0, okResponse 0, okResponse 0]) ∧
      (Trust.none.afterRun (hdrSet 7 42 100) [okResponse 0, okResponse 0, okResponse 0]).whole = true :=
  ⟨_, _, rfl, rfl, by decide⟩

/-! ## Invariants and whole-machine rules -/

theorem answering_portInv : answering.portInv := by
  intro _ o ho
  cases ho
  exact ⟨⟨by decide, by decide⟩, ⟨0, Nat.zero_le _⟩, by intro w hw; cases hw; rfl⟩

theorem witness_StepKeepsThePortInvariant : answering.portInv ∧ ∃ t, step answering = .next t :=
  ⟨answering_portInv, _, rfl⟩

/-- A header with size 5 (VH5) is read in a valid state. -/
theorem witness_OnlyHdrReadBreaksTheValidHeader :
    let s := src State.reset 16 0x00050100000000010000000000000000
    s.unreset = false ∧ s.powered ∧ s.validHeader ∧ ∃ t, step s = .next t ∧ ¬ t.validHeader := by
  refine ⟨rfl, ?_, ?_, _, rfl, ?_⟩
  · intro rest h
    cases h
  · unfold State.validHeader
    decide
  · unfold State.validHeader
    decide

/-- ID changes by SET_ID 42. -/
theorem witness_OnlyNamedEventsWriteTheRegisters_id :
    (presenting 0x080000002A).unreset = false ∧ (presenting 0x080000002A).powered ∧
    ∃ t, step (presenting 0x080000002A) = .next t ∧ t.id ≠ (presenting 0x080000002A).id :=
  ⟨rfl, presenting_powered _, _, rfl, by decide⟩

/-- SIZE changes by SET_PAYLOAD_SIZE 100. -/
theorem witness_OnlyNamedEventsWriteTheRegisters_size :
    (presenting 0x0300000064).unreset = false ∧ (presenting 0x0300000064).powered ∧
    ∃ t, step (presenting 0x0300000064) = .next t ∧ t.size ≠ (presenting 0x0300000064).size :=
  ⟨rfl, presenting_powered _, _, rfl, by decide⟩

/-- MTYPE changes by SET_MSG_TYPE 255. -/
theorem witness_OnlyNamedEventsWriteTheRegisters_mtype :
    (presenting 0x06000000FF).unreset = false ∧ (presenting 0x06000000FF).powered ∧
    ∃ t, step (presenting 0x06000000FF) = .next t ∧ t.mtype ≠ (presenting 0x06000000FF).mtype :=
  ⟨rfl, presenting_powered _, _, rfl, by decide⟩

/-- All three change by the edge that completes a reset pulse. -/
theorem witness_OnlyNamedEventsWriteTheRegisters_reset :
    let s := resetting (regs 0x1234 0xAB 0xDEADBEEF)
    s.unreset = false ∧ s.powered ∧ s.pins.rst = true ∧
    ∃ t, step s = .next t ∧ t.size ≠ s.size ∧ t.mtype ≠ s.mtype ∧ t.id ≠ s.id :=
  ⟨rfl, resetting_powered _, rfl, _, step_resetting _, by decide, by decide, by decide⟩

theorem witness_StepStopsOnlyOnBrokenDuties : (presenting 0x080000002A).hostKeepsDuties = true := by decide

/-! ## Reset and power -/

/-- A busy unit, and a pulse of just RESET_MIN_CYCLES edges. -/
theorem witness_LongResetPulseResetsFromAnyState :
    busyUnit.busy = true ∧ Config.resetMinCycles ≤ Config.resetMinCycles ∧
    ({ busyUnit with host := List.replicate Config.resetMinCycles rstEdge ++ [idleEdge] } : State).host =
      List.replicate Config.resetMinCycles rstEdge ++ [idleEdge] := ⟨rfl, le_refl _, rfl⟩

theorem witness_ResetEdgeResetsOrKeeps :
    let s := at' answering { idlePins with rst := true }
    s.pins.rst = true ∧ s.pins.cmdValid = false ∧ s.unreset = false := by decide

/-- The edge that completes RESET_MIN_CYCLES. -/
theorem witness_ResetEdgeResetsOrKeeps_last :
    Config.resetMinCycles ≤
      (at' { answering with rstCount := Config.extraResetCycles } { idlePins with rst := true }).rstCount + 1 :=
  le_refl _

theorem witness_RstHoldsTheOutputs : (at' answering { idlePins with rst := true }).pins.rst = true := by decide

theorem witness_FirstEdgeAfterResetAccepts :
    (presenting 0x0200000000).isReset ∧
    (presenting 0x0200000000).host =
      .clock (commandPins { word := tableWord 40 0x0200000000, source := fullZeroSource }) true :: [] :=
  ⟨⟨rfl, rfl, rfl, rfl, rfl⟩, rfl⟩

theorem witness_OnlyResetEndsThePowerUpState_power :
    ({ answering with host := [.powerCycle] } : State).host = .powerCycle :: [] := rfl

/-- A unit that was never reset, at the edge that completes the reset pulse. -/
theorem witness_OnlyResetEndsThePowerUpState_reset :
    let s := resetting { State.reset with unreset := true }
    s.unreset = true ∧ ∃ t, step s = .next t ∧ t.unreset = false :=
  ⟨rfl, _, step_resetting _, rfl⟩

/-- A unit that was never reset, at an idle edge: it stays so, and its outputs are read there. -/
theorem witness_OnlyResetEndsThePowerUpState_idle :
    let s : State := { State.reset with unreset := true }
    s.unreset = true ∧ s.pins.rst = false ∧ ∃ t, step s = .next t ∧ t.unreset = true := by
  intro s
  have hp : s.presentsUnready = false := rfl
  have hm : s.missesResponse = false := by simp [State.missesResponse, State.sampled, s, State.reset]
  refine ⟨rfl, rfl, s.scramble.advance, ?_, rfl⟩
  rw [step_eq_next_iff]
  refine ⟨_, ?_, rfl⟩
  show clockEdge s = _
  rw [clockEdge, hp, hm]
  rfl

/-! ## The port -/

/-- An earlier response is presented while the next command is accepted. -/
theorem witness_BusyUntilTheResponse :
    let c : Command := { word := 0x0900000000, source := noSource }
    let s : State := { answering with host := .clock (commandPins c) true :: (List.replicate 0 idleEdge ++ []) }
    s.unreset = false ∧ s.busy = false ∧ 0 ≤ Config.extraLatency (opOf c.word) ∧
    ∃ u, acceptWord c.word s = .next u := ⟨rfl, rfl, Nat.zero_le _, _, rfl⟩

/-- The last edge before the response, k = CMD_LATENCY less 1. -/
theorem witness_BusyUntilTheResponse_last :
    let c : Command := { word := 0x0900000000, source := noSource }
    let k := Config.extraLatency (opOf c.word)
    let s : State := { State.reset with host := .clock (commandPins c) true :: (List.replicate k idleEdge ++ []) }
    s.unreset = false ∧ s.busy = false ∧ k ≤ Config.extraLatency (opOf c.word) ∧
    ∃ u, acceptWord c.word s = .next u := ⟨rfl, rfl, le_refl _, _, rfl⟩

theorem witness_PortValuesWithoutCommandHaveNoEffect :
    idlePins.cmdValid = false ∧ ({ idlePins with cmdOp := 8, cmdArg := 5 } : Pins).cmdValid = false ∧
    ({ idlePins with cmdOp := 8, cmdArg := 5 } : Pins).rst = idlePins.rst := by decide

/-- A response is due, and none is due while one is on its way. -/
theorem witness_PresentedResponseIsOnThePort :
    answering.presented = some (snkResponse (regs 0x0074 0x07 0x2A).headerBytes) ∧
    answering.unreset = false ∧ answering.pins.rst = false ∧ answering.outputs.cmdReady = true ∧
    busyUnit.unreset = false ∧ busyUnit.pins.rst = false ∧ busyUnit.outputs.cmdReady = false := by
  refine ⟨rfl, rfl, rfl, rfl, rfl, rfl, rfl⟩

/-- The response is presented, with the next command accepted (R110). -/
theorem witness_EveryResponseIsPresentedOnce_presented :
    let s := at' answering { idlePins with cmdValid := true, cmdOp := 9 }
    s.unreset = false ∧ s.powered ∧ (∃ o, s.outstanding = some o ∧ o.left = 0) ∧ ∃ t, step s = .next t := by
  refine ⟨rfl, ?_, ⟨_, rfl, rfl⟩, _, rfl⟩
  intro rest h
  cases h

/-- The response is on its way. -/
theorem witness_EveryResponseIsPresentedOnce_coming :
    busyUnit.unreset = false ∧ busyUnit.powered ∧ (∃ o, busyUnit.outstanding = some o ∧ o.left = 1) ∧
    ∃ t, step busyUnit = .next t := by
  refine ⟨rfl, ?_, ⟨_, rfl, rfl⟩, _, rfl⟩
  intro rest h
  cases h

/-- The response is dropped by a reset. -/
theorem witness_EveryResponseIsPresentedOnce_reset :
    (resetting answering).unreset = false ∧ (resetting answering).powered ∧
    (∃ o, (resetting answering).outstanding = some o) ∧ ∃ t, step (resetting answering) = .next t :=
  ⟨rfl, resetting_powered _, ⟨_, rfl⟩, _, step_resetting _⟩

theorem witness_PortRunRefinesCommandRun :
    let cs := [(plainCommand .setId 42, 0), (plainCommand .getId 0, 2)]
    let s : State := { State.reset with host := schedule cs }
    s.unreset = false ∧ s.outstanding = none ∧ s.host = schedule cs := ⟨rfl, rfl, rfl⟩

theorem witness_UnitsShareNothing :
    ∃ y', ({ units := [State.reset, presenting 0x080000002A] } : System).stepAt 1 = some (.next y') := ⟨_, rfl⟩

end Sys2Proof.Tests
end

section
/-! SUPPORT. What a command and an accepted word leave unchanged, what they read of the state, and that each is
answered. -/

namespace Sys2Proof

/-- The opcode map read in one direction is the opcode map read in the other (`30_encoding.md` R49). -/
theorem Mnemonic.opcode_of_ofOpcode {op : Byte} {m : Mnemonic} (h : Mnemonic.ofOpcode op = some m) :
    m.opcode = op := by
  unfold Mnemonic.ofOpcode at h
  split at h <;> cases h <;> exact BitVec.eq_of_toNat_eq (Eq.symm ‹_›)

/-- A command has the mnemonic that it was made with. -/
@[simp] theorem Mnemonic.mnemonic_withArg (m : Mnemonic) (arg : Word) : (m.withArg arg).mnemonic = m := by
  cases m <;> rfl

/-- A word that decodes to a command carries that command's opcode (R49, R52). -/
theorem opcode_of_decode {w : CmdWord} {i : Instr} (h : decode w = .ok i) : i.mnemonic.opcode = opOf w := by
  unfold decode at h
  split at h
  · rename_i m hm
    cases h
    rw [Mnemonic.mnemonic_withArg, Mnemonic.opcode_of_ofOpcode hm]
  · cases h

namespace Machine

/-- No command touches the reset count, the power flag, the host's events or the draw counter. -/
theorem exec_sameRest {i : Instr} {s t : State} (h : exec i s = .next t) : s.sameRest t := by
  obtain ⟨e, -, he⟩ | ⟨a, b, c, v, he⟩ | ⟨-, he⟩ := exec_cases i s
  all_goals
    cases he.symm.trans h
    exact ⟨rfl, rfl, rfl, rfl⟩

/-- The "writes" column of `10_state.md` R18, one disjunction for each register. -/
theorem exec_registers {i : Instr} {s t : State} (h : exec i s = .next t) :
    (t.size = s.size ∨ i.mnemonic = .hdrRead ∨ i.mnemonic = .setPayloadSize) ∧
      (t.mtype = s.mtype ∨ i.mnemonic = .hdrRead ∨ i.mnemonic = .setMsgType) ∧
      (t.id = s.id ∨ i.mnemonic = .hdrRead ∨ i.mnemonic = .setId) := by
  cases i with
  | hdrRead arg => exact ⟨.inr (.inl rfl), .inr (.inl rfl), .inr (.inl rfl)⟩
  | setPayloadSize n =>
    have others : t.mtype = s.mtype ∧ t.id = s.id := by
      simp only [exec, execSetPayloadSize_eq] at h
      split at h <;> cases h <;> exact ⟨rfl, rfl⟩
    exact ⟨.inr (.inr rfl), .inl others.1, .inl others.2⟩
  | setMsgType v =>
    have others : t.size = s.size ∧ t.id = s.id := by
      simp only [exec, execSetMsgType_eq] at h
      split at h <;> cases h <;> exact ⟨rfl, rfl⟩
    exact ⟨.inl others.1, .inr (.inr rfl), .inl others.2⟩
  | setId v =>
    cases h
    exact ⟨.inl rfl, .inl rfl, .inr (.inr rfl)⟩
  | hdrWrite arg | getPayloadSize arg | getFrameSize arg | getMsgType arg | getId arg =>
    cases h
    exact ⟨.inl rfl, .inl rfl, .inl rfl⟩

/-- Every command completes with one response, under its own opcode (`60_exceptions.md` R85). -/
theorem exec_answers (i : Instr) (s : State) :
    ∃ t r, exec i s = .next t ∧ t.answers i.mnemonic.opcode r := by
  obtain ⟨e, -, he⟩ | ⟨a, b, c, v, he⟩ | ⟨hi, he⟩ := exec_cases i s
  · exact ⟨_, _, he, rfl⟩
  · exact ⟨_, _, he, rfl⟩
  · rw [hi]
    exact ⟨_, _, he, rfl⟩

/-- No command reads the response that stands on the port: it puts its own in that place (`10_state.md` R21). -/
theorem exec_outstanding (i : Instr) (s : State) (o : Option Outstanding) :
    exec i { s with outstanding := o } = exec i s := by
  cases i <;> rfl

/-- An accepted word is a command under its opcode, or a reserved opcode that raises ERR_ILLEGAL
(`30_encoding.md` R50, R52). -/
theorem acceptWord_cases (w : CmdWord) :
    (∃ i, i.mnemonic.opcode = opOf w ∧ decode w = .ok i ∧ ∀ s, acceptWord w s = exec i s) ∨
      (decode w = .error (.reservedOpcode (opOf w)) ∧
        ∀ s, acceptWord w s = .next (s.raise (opOf w) .errIllegal)) := by
  cases hd : decode w with
  | ok i => exact .inl ⟨i, opcode_of_decode hd, rfl, fun s => by simp only [acceptWord, hd]⟩
  | error e =>
    obtain rfl : .reservedOpcode (opOf w) = e := by
      unfold decode at hd
      split at hd <;> cases hd
      rfl
    exact .inr ⟨rfl, fun s => by simp only [acceptWord, hd, execReserved]⟩

/-- Every accepted word gets one response, under its own opcode (R85). -/
theorem acceptWord_answers (w : CmdWord) (s : State) :
    ∃ t r, acceptWord w s = .next t ∧ t.answers (opOf w) r := by
  obtain ⟨i, hop, -, hi⟩ | ⟨-, hraise⟩ := acceptWord_cases w
  · rw [← hop, hi]
    exact exec_answers i s
  · exact ⟨_, _, hraise s, rfl⟩

/-- No accepted word reads the response that stands on the port (`10_state.md` R21). -/
theorem acceptWord_outstanding (w : CmdWord) (s : State) (o : Option Outstanding) :
    acceptWord w { s with outstanding := o } = acceptWord w s := by
  obtain ⟨i, -, -, hi⟩ | ⟨-, hraise⟩ := acceptWord_cases w
  · rw [hi, hi, exec_outstanding]
  · rw [hraise, hraise]
    rfl

/-- R18 by opcode: an accepted word changes a register only with an opcode that writes it. -/
theorem acceptWord_registers {w : CmdWord} {s t : State} (h : acceptWord w s = .next t) :
    (t.size = s.size ∨ opOf w = 0x01 ∨ opOf w = 0x03) ∧
      (t.mtype = s.mtype ∨ opOf w = 0x01 ∨ opOf w = 0x06) ∧
      (t.id = s.id ∨ opOf w = 0x01 ∨ opOf w = 0x08) := by
  obtain ⟨i, hop, -, hi⟩ | ⟨-, hraise⟩ := acceptWord_cases w
  · have opcode {m : Mnemonic} (hm : i.mnemonic = m) : opOf w = m.opcode := by rw [← hop, hm]
    obtain ⟨hsize, hmtype, hid⟩ := exec_registers ((hi s).symm.trans h)
    exact ⟨hsize.imp_right (.imp opcode opcode), hmtype.imp_right (.imp opcode opcode),
      hid.imp_right (.imp opcode opcode)⟩
  · cases (hraise s).symm.trans h
    exact ⟨.inl rfl, .inl rfl, .inl rfl⟩

end Machine
end Sys2Proof
end

section
/-! SUPPORT. The edge that accepts a word, and what a step can do to the registers. -/

namespace Sys2Proof.Machine

/-- The three conditions under which a command can be accepted (`70_reset_and_hazards.md` R104, R106, R110). -/
theorem State.ready_iff {s : State} :
    s.ready = true ↔ s.pins.rst = false ∧ s.unreset = false ∧ s.busy = false := by
  simp [State.ready, and_assoc]

/-- At an edge that accepts a word the event is that word's meaning (R109): a host that presents a command is at
a clock edge, since at any other event the ports are idle. -/
theorem hostStep_of_accepts {s : State} {w : CmdWord} (h : s.accepts w) : hostStep s = acceptWord w s := by
  obtain ⟨hready, hvalid, hmiss, rfl⟩ := h
  obtain ⟨hrst, hunreset, hbusy⟩ := State.ready_iff.1 hready
  have hpresents : s.presentsUnready = false := by
    simp [State.presentsUnready, (port_signals hrst hunreset).1, hbusy]
  have hedge : clockEdge s = acceptWord (pinsWord s.pins) s := by
    simp [clockEdge, hpresents, hmiss, hrst, hunreset, hvalid]
  unfold hostStep
  split
  · rename_i hhost
    simp [State.pins, hhost, idlePins] at hvalid
  · rename_i hhost
    simp [State.pins, hhost, idlePins] at hvalid
  · exact hedge

/-- The step at an accepting edge (R109). -/
theorem step_of_accepts {s : State} {w : CmdWord} (h : s.accepts w) : step s = thenAdvance (acceptWord w s) := by
  rw [step, hostStep_of_accepts h]

/-- Where a response is due, whichever it is, the host misses it just when it does not sample (`20_memory.md`
R42). -/
theorem missesResponse_of_due {s : State} {r : Response} (hrst : s.pins.rst = false)
    (hunreset : s.unreset = false) (hdue : s.dueResponse = some r) : s.missesResponse = !s.sampled := by
  simp [State.missesResponse, (port_signals hrst hunreset).2, hdue]

/-- Whichever response the FHC presents, it accepts the same word (`10_state.md` R21, R110). -/
theorem accepts_beside_response {s : State} {w : CmdWord} {r : Response} (r' : Response)
    (h : ({ s with outstanding := some { left := 0, response := r } } : State).accepts w) :
    ({ s with outstanding := some { left := 0, response := r' } } : State).accepts w := by
  obtain ⟨hready, hvalid, hmiss, hword⟩ := h
  obtain ⟨hrst, hunreset, -⟩ := State.ready_iff.1 hready
  have misses (x : Response) :
      ({ s with outstanding := some { left := 0, response := x } } : State).missesResponse = !s.sampled :=
    missesResponse_of_due hrst hunreset rfl
  exact ⟨hready, hvalid, (misses r').trans ((misses r).symm.trans hmiss), hword⟩

/-- While the power stays, a step keeps the registers, or a reset takes effect, or it runs the word that it
accepts (`60_exceptions.md` R102). -/
theorem step_next_registers {s t : State} (hunreset : s.unreset = false) (hpowered : s.powered)
    (h : step s = .next t) :
    s.sameRegisters t ∨ (s.pins.rst = true ∧ t.isReset) ∨
      ∃ w u, s.accepts w ∧ acceptWord w s = .next u ∧ t = u.advance := by
  obtain ⟨u, hu, rfl⟩ := step_eq_next_iff.1 h
  obtain ⟨-, rest, hhost⟩ | ⟨hrst, rfl⟩ | ⟨-, hun, -⟩ | ⟨hrst, -, hbusy, hvalid, hmiss, hacc⟩ | ⟨-, -, -, rfl⟩ :=
    hostStep_next_cases hu
  · exact absurd hhost (hpowered rest)
  · obtain ⟨-, he⟩ | ⟨-, hun, -⟩ | ⟨-, -, he⟩ := resetEdge_cases s
    · exact .inr (.inl ⟨hrst, by rw [he]; exact ⟨rfl, rfl, rfl, rfl, rfl⟩⟩)
    · simp [hunreset] at hun
    · exact .inl (by rw [he]; exact ⟨rfl, rfl, rfl⟩)
  · simp [hunreset] at hun
  · exact .inr (.inr ⟨_, u, ⟨State.ready_iff.2 ⟨hrst, hunreset, hbusy⟩, hvalid, hmiss, rfl⟩, hacc, rfl⟩)
  · exact .inl ⟨rfl, rfl, rfl⟩

end Sys2Proof.Machine
end

section
/-! CERTIFICATE. The statements on the state of `10_state.md`. -/

namespace Sys2Proof.Proofs

open Sys2Proof.Machine

/-- Settles O44: a step that keeps the power keeps the registers, resets, or runs an accepted word, and that word
writes a register only with an opcode that the rules name for it. -/
theorem onlyNamedEventsWriteTheRegisters : Obligations.OnlyNamedEventsWriteTheRegisters := by
  intro s t hunreset hpowered hstep
  obtain ⟨hsize, hmtype, hid⟩ | hreset | ⟨w, u, hacc, hu, rfl⟩ := step_next_registers hunreset hpowered hstep
  · exact ⟨.inl hsize, .inl hmtype, .inl hid⟩
  · exact ⟨.inr (.inl hreset), .inr (.inl hreset), .inr (.inl hreset)⟩
  · obtain ⟨hsize, hmtype, hid⟩ := acceptWord_registers hu
    exact ⟨hsize.imp_right fun hop => .inr ⟨w, hacc, hop⟩, hmtype.imp_right fun hop => .inr ⟨w, hacc, hop⟩,
      hid.imp_right fun hop => .inr ⟨w, hacc, hop⟩⟩

/-- Settles O24, from the register and the frame rule of `exec`. -/
theorem commandsWriteOnlyTheirRegisters : Obligations.CommandsWriteOnlyTheirRegisters := by
  intro i s t h
  obtain ⟨hsize, hmtype, hid⟩ := exec_registers h
  exact ⟨exec_sameRest h,
    fun h1 h2 => hsize.resolve_right (not_or.2 ⟨h1, h2⟩),
    fun h1 h2 => hmtype.resolve_right (not_or.2 ⟨h1, h2⟩),
    fun h1 h2 => hid.resolve_right (not_or.2 ⟨h1, h2⟩)⟩

/-- Settles O30: both steps run the accepted word, whose meaning does not read the response on the port. -/
theorem earlierResponseHasNoEffect : Obligations.EarlierResponseHasNoEffect := by
  intro w s r r' h
  have h' := accepts_beside_response r' h
  obtain ⟨t, r₂, ht, hanswers⟩ := acceptWord_answers w s
  have runs {x : Response}
      (hx : ({ s with outstanding := some { left := 0, response := x } } : State).accepts w) :
      step { s with outstanding := some { left := 0, response := x } } = .next t.advance := by
    rw [step_of_accepts hx, acceptWord_outstanding, ht]
    rfl
  exact ⟨h', (runs h').trans (runs h).symm, t.advance, r₂, runs h', hanswers⟩

/-- Settles O42: no response is on its way, and each command is run on the reset values. -/
theorem resetStateIsTheSpecs : Obligations.ResetStateIsTheSpecs := by
  have hport : State.reset.portInv := by
    intro _ o ho
    cases ho
  have hheader : State.reset.headerBytes = #v[0x00, 0x10, 0, 0, 0, 0, 0, 0, 0, 0, 0, 0, 0, 0, 0, 0] := by
    rw [headerBytes_eq]
    decide
  refine ⟨hport, ⟨rfl, rfl, rfl, rfl, rfl⟩, Nat.le_refl 16, rfl, rfl, ⟨_, rfl, rfl⟩, ⟨_, rfl, rfl⟩, ⟨_, rfl, rfl⟩,
    ⟨_, rfl, rfl⟩, _, rfl, ?_⟩
  rw [← hheader]
  rfl

end Sys2Proof.Proofs
end

section
/-! SUPPORT. What an accepted word reads and keeps beside the registers, and the port invariant. -/

namespace Sys2Proof.Machine

/-- No accepted word touches the reset count, the power flag, the host's events or the draw counter. -/
theorem acceptWord_sameRest {w : CmdWord} {s t : State} (h : acceptWord w s = .next t) : s.sameRest t := by
  obtain ⟨i, -, -, hi⟩ | ⟨-, hraise⟩ := acceptWord_cases w
  · exact exec_sameRest ((hi s).symm.trans h)
  · cases (hraise s).symm.trans h
    exact ⟨rfl, rfl, rfl, rfl⟩

/-- HDR_READ of a complete window writes the window's fields into the registers (`40_header_transfer.md` R61). -/
theorem exec_hdrRead_complete (arg : Word) {s : State} (h : 16 ≤ s.source.avail.toNat) :
    exec (.hdrRead arg) s = .next
      (State.respond
        { s with
          size := be16 s.source.bytes[0] s.source.bytes[1]
          mtype := s.source.bytes[2]
          id := be32 s.source.bytes[4] s.source.bytes[5] s.source.bytes[6] s.source.bytes[7] }
        0x01 0) := by
  rw [exec, execHdrRead_eq, if_neg (Nat.not_lt.2 h)]

/-- A command reads the registers and the source window, and nothing else of the state. -/
theorem exec_congr (i : Instr) {s s' : State} (hregs : s.sameRegisters s') (hsource : s'.source = s.source) :
    ∃ t t', exec i s = .next t ∧ exec i s' = .next t' ∧ t.sameRegisters t' ∧ t'.outstanding = t.outstanding := by
  obtain ⟨hsize, hmtype, hid⟩ := hregs
  have hheader : s'.headerBytes = s.headerBytes := State.headerBytes_of_registers hsize hmtype hid
  cases i with
  | hdrRead arg =>
    simp only [exec, execHdrRead_eq, hsource]
    split
    · exact ⟨_, _, rfl, rfl, ⟨hsize, hmtype, hid⟩, rfl⟩
    · exact ⟨_, _, rfl, rfl, ⟨rfl, rfl, rfl⟩, rfl⟩
  | hdrWrite arg =>
    exact ⟨_, _, rfl, rfl, ⟨hsize, hmtype, hid⟩, by simp [hheader]⟩
  | setPayloadSize n =>
    simp only [exec, execSetPayloadSize_eq]
    split
    · exact ⟨_, _, rfl, rfl, ⟨hsize, hmtype, hid⟩, rfl⟩
    · exact ⟨_, _, rfl, rfl, ⟨rfl, hmtype, hid⟩, rfl⟩
  | setMsgType v =>
    simp only [exec, execSetMsgType_eq]
    split
    · exact ⟨_, _, rfl, rfl, ⟨hsize, hmtype, hid⟩, rfl⟩
    · exact ⟨_, _, rfl, rfl, ⟨hsize, rfl, hid⟩, rfl⟩
  | setId v => exact ⟨_, _, rfl, rfl, ⟨hsize, hmtype, rfl⟩, rfl⟩
  | getPayloadSize arg | getFrameSize arg | getMsgType arg | getId arg =>
    exact ⟨_, _, rfl, rfl, ⟨hsize, hmtype, hid⟩, by simp [hsize, hmtype, hid]⟩

/-- An accepted word reads the registers and the source window, and nothing else of the state. -/
theorem acceptWord_congr (w : CmdWord) {s s' : State} (hregs : s.sameRegisters s')
    (hsource : s'.source = s.source) :
    ∃ t t', acceptWord w s = .next t ∧ acceptWord w s' = .next t' ∧ t.sameRegisters t' ∧
      t'.outstanding = t.outstanding := by
  obtain ⟨i, -, -, hi⟩ | ⟨-, hraise⟩ := acceptWord_cases w
  · rw [hi, hi]
    exact exec_congr i hregs hsource
  · exact ⟨_, _, hraise s, hraise s', hregs, rfl⟩

/-- A state that has just completed a command meets the port invariant when the response is well formed and a
sink window in it is the header of the registers. -/
theorem portInv_complete {s : State} (op : Byte) {r : Response} (hwf : r.wellFormed)
    (hsnk : ∀ w, r.snk = some w → w = s.headerBytes) : (s.complete op r).portInv := by
  intro _ o ho
  cases ho
  exact ⟨hwf, ⟨op, Nat.le_refl _⟩, hsnk⟩

/-- A response without a sink window is well formed when a status other than OK comes with RESULT 0
(`30_encoding.md` R47). -/
theorem wellFormed_without_snk {e : Status} {v : Word} (h : e ≠ .ok → v = 0) :
    (Response.mk e v none).wellFormed :=
  ⟨fun he => ⟨h he, rfl⟩, fun hs => absurd rfl hs⟩

/-- Every accepted word leaves its response with the port invariant, whatever stood there before. -/
theorem acceptWord_portInv {w : CmdWord} {s t : State} (h : acceptWord w s = .next t) : t.portInv := by
  have raises (u : State) (op : Byte) (e : Status) : (u.raise op e).portInv :=
    portInv_complete op (wellFormed_without_snk fun _ => rfl) (by simp)
  obtain ⟨i, -, -, hi⟩ | ⟨-, hraise⟩ := acceptWord_cases w
  · replace h := (hi s).symm.trans h
    obtain ⟨e, -, he⟩ | ⟨a, b, c, v, he⟩ | ⟨-, he⟩ := exec_cases i s
    · cases he.symm.trans h
      exact raises s _ e
    · cases he.symm.trans h
      exact portInv_complete _ (wellFormed_without_snk fun he => absurd rfl he) (by simp)
    · cases he.symm.trans h
      exact portInv_complete _ ⟨fun he => absurd rfl he, fun _ => rfl⟩ fun w hw => (Option.some.inj hw).symm
  · cases (hraise s).symm.trans h
    exact raises s _ _

/-- The port invariant lasts while the registers are kept and an outstanding response only comes nearer. -/
theorem portInv_of_nearer {s t : State} (h : s.portInv) (hunreset : s.unreset = false)
    (hregs : s.sameRegisters t)
    (hnear : ∀ o', t.outstanding = some o' →
      ∃ o, s.outstanding = some o ∧ o'.left ≤ o.left ∧ o'.response = o.response) : t.portInv := by
  intro _ o' ho'
  obtain ⟨hsize, hmtype, hid⟩ := hregs
  obtain ⟨o, ho, hleft, hresp⟩ := hnear o' ho'
  obtain ⟨hwf, ⟨op, hop⟩, hsnk⟩ := h hunreset o ho
  rw [hresp, State.headerBytes_of_registers hsize hmtype hid]
  exact ⟨hwf, ⟨op, hleft.trans hop⟩, hsnk⟩

/-- What is outstanding after one edge nearer was outstanding before it, with that edge more to go. -/
theorem Outstanding.tick_eq_some {o o' : Outstanding} (h : o.tick = some o') :
    o.left = o'.left + 1 ∧ o'.response = o.response := by
  obtain ⟨left, r⟩ := o
  cases left with
  | zero => cases h
  | succ k =>
    cases h
    exact ⟨rfl, rfl⟩

/-- Every host event that has a next state keeps the port invariant. -/
theorem hostStep_portInv {s t : State} (h : s.portInv) (hstep : hostStep s = .next t) : t.portInv := by
  obtain ⟨rfl, -⟩ | ⟨-, rfl⟩ | ⟨-, hun, rfl⟩ | ⟨-, -, -, -, -, hacc⟩ | ⟨-, hun, -, rfl⟩ :=
    hostStep_next_cases hstep
  · exact fun hun => by cases hun
  · obtain ⟨-, he⟩ | ⟨-, hun, he⟩ | ⟨-, hun, he⟩ := resetEdge_cases s <;> rw [he]
    · exact fun _ o ho => by cases ho
    · exact fun hun' => by simp [hun] at hun'
    · refine portInv_of_nearer h hun ⟨rfl, rfl, rfl⟩ fun o' ho' => ?_
      obtain ⟨o, ho, rfl⟩ := Option.map_eq_some_iff.1 ho'
      exact ⟨o, ho, Nat.sub_le _ _, rfl⟩
  · exact fun hun' => by simp [State.unresetEdge, hun] at hun'
  · exact acceptWord_portInv hacc
  · refine portInv_of_nearer h hun ⟨rfl, rfl, rfl⟩ fun o' ho' => ?_
    obtain ⟨o, ho, htick⟩ := Option.bind_eq_some_iff.1 ho'
    obtain ⟨hleft, hresp⟩ := Outstanding.tick_eq_some htick
    exact ⟨o, ho, by omega, hresp⟩

/-- The host's going on touches nothing that the port invariant speaks of. -/
theorem advance_portInv {s : State} (h : s.portInv) : s.advance.portInv := h

/-- A clock edge has a next state just when the host breaks no duty at it (`20_memory.md` R42): past the two
checks every branch answers, an accepted word's too. -/
theorem clockEdge_answers_iff (s : State) :
    (∃ t, clockEdge s = .next t) ↔ s.presentsUnready = false ∧ s.missesResponse = false := by
  unfold clockEdge
  constructor
  · rintro ⟨t, ht⟩
    split at ht
    · cases ht
    · split at ht
      · cases ht
      · exact ⟨Bool.eq_false_iff.2 ‹_›, Bool.eq_false_iff.2 ‹_›⟩
  · rintro ⟨hpresents, hmiss⟩
    rw [if_neg (by simp [hpresents]), if_neg (by simp [hmiss])]
    split
    · exact ⟨_, rfl⟩
    · split
      · exact ⟨_, rfl⟩
      · split
        · obtain ⟨t, -, ht, -⟩ := acceptWord_answers (pinsWord s.pins) s
          exact ⟨t, ht⟩
        · exact ⟨_, rfl⟩

/-- A step has a next state just when the host's event has one. -/
theorem step_answers_iff (s : State) : (∃ t, step s = .next t) ↔ ∃ t, hostStep s = .next t := by
  constructor
  · rintro ⟨t, ht⟩
    obtain ⟨u, hu, -⟩ := step_eq_next_iff.1 ht
    exact ⟨u, hu⟩
  · rintro ⟨u, hu⟩
    exact ⟨u.advance, step_eq_next_iff.2 ⟨u, hu, rfl⟩⟩

end Sys2Proof.Machine
end

section
/-! SUPPORT. Runs at the port: the edges at which the host idles, and the edges of one command. -/

namespace Sys2Proof.Machine

/-- The response that is still to be presented, as a list of none or one. -/
def State.pending (s : State) : List Response := (s.outstanding.map Outstanding.response).toList

/-- An outstanding response is presented after at most `k` edges. -/
def State.dueWithin (s : State) (k : Nat) : Prop := ∀ o, s.outstanding = some o → o.left ≤ k

/-- With nothing left to wait for the FHC is not busy, and what is pending is what is due now (R110, R111). -/
theorem dueResponse_of_dueWithin_zero {s : State} (h : s.dueWithin 0) :
    s.busy = false ∧ s.dueResponse.toList = s.pending := by
  cases ho : s.outstanding with
  | none => simp [State.busy, State.dueResponse, State.pending, ho]
  | some o =>
    have hleft : o.left = 0 := Nat.le_zero.1 (h o ho)
    simp [State.busy, State.dueResponse, State.pending, ho, hleft]

/-- An edge that only lets time pass presents the pending response or leaves it pending (R111). -/
theorem dueResponse_append_elapse (s : State) : s.dueResponse.toList ++ s.elapse.pending = s.pending := by
  cases ho : s.outstanding with
  | none => simp [State.dueResponse, State.pending, ho]
  | some o =>
    obtain ⟨left, r⟩ := o
    cases left <;> simp [State.dueResponse, State.pending, ho, Outstanding.tick]

/-- An edge that only lets time pass brings the response one edge nearer (R111). -/
theorem dueWithin_elapse {s : State} {k : Nat} (h : s.dueWithin k) : s.elapse.dueWithin (k - 1) := by
  intro o' ho'
  obtain ⟨o, ho, htick⟩ := Option.bind_eq_some_iff.1 ho'
  have hleft := (Outstanding.tick_eq_some htick).1
  have := h o ho
  omega

/-- After an edge that ends the cycle in which the response was due, nothing is outstanding (R111). -/
theorem elapse_outstanding_of_dueWithin_zero {s : State} (h : s.dueWithin 0) : s.elapse.outstanding = none := by
  cases ho : s.elapse.outstanding with
  | none => rfl
  | some o' =>
    obtain ⟨o, ho, htick⟩ := Option.bind_eq_some_iff.1 ho
    have hleft := (Outstanding.tick_eq_some htick).1
    have := h o ho
    omega

/-- At an edge at which the host only samples, time passes. -/
theorem step_idleEdge {s : State} {rest : List HostEvent} (hunreset : s.unreset = false)
    (hhost : s.host = idleEdge :: rest) :
    step s = .next s.elapse.advance ∧ s.presented = s.dueResponse := by
  have hpins : s.pins = idlePins := by simp [State.pins, hhost, idleEdge]
  have hsampled : s.sampled = true := by simp [State.sampled, hhost, idleEdge]
  have hpresents : s.presentsUnready = false := by simp [State.presentsUnready, hpins, idlePins]
  have hmiss : s.missesResponse = false := by simp [State.missesResponse, hsampled]
  have hedge : hostStep s = clockEdge s := by simp [hostStep, hhost, idleEdge]
  refine ⟨step_eq_next_iff.2 ⟨s.elapse, ?_, rfl⟩, (port_signals (by rw [hpins]; rfl) hunreset).2⟩
  rw [hedge]
  simp [clockEdge, hpresents, hmiss, hpins, hunreset, idlePins]

/-- A run of edges is its first step and the run from there, which adds the response presented before it. -/
theorem runEdges_succ_iff {s u : State} {k : Nat} {rs : List Response} :
    runEdges (k + 1) s = some (u, rs) ↔
      ∃ t rs', step s = .next t ∧ runEdges k t = some (u, rs') ∧ rs = s.presented.toList ++ rs' := by
  cases hstep : step s with
  | next t => cases hrun : runEdges k t <;> simp [runEdges, hstep, hrun, Prod.ext_iff, eq_comm]
  | fault f => simp [runEdges, hstep]
  | refused r => simp [runEdges, hstep]

/-- Two runs one after the other are one run. -/
theorem runEdges_add {j k : Nat} {s t u : State} {rs rs' : List Response}
    (hfirst : runEdges j s = some (t, rs)) (hsecond : runEdges k t = some (u, rs')) :
    runEdges (j + k) s = some (u, rs ++ rs') := by
  induction j generalizing s rs with
  | zero =>
    cases hfirst
    simpa using hsecond
  | succ j ih =>
    obtain ⟨s₁, rs₁, hstep, hrun, rfl⟩ := runEdges_succ_iff.1 hfirst
    rw [Nat.succ_add, List.append_assoc]
    exact runEdges_succ_iff.2 ⟨s₁, rs₁ ++ rs', hstep, ih hrun, rfl⟩

/-- Edges at which the host only samples keep the registers and lose no response: what they do not present is
still pending, and as many edges nearer (R109, R111). -/
theorem runEdges_idle (k n : Nat) {s : State} {rest : List HostEvent} (hunreset : s.unreset = false)
    (hhost : s.host = List.replicate k idleEdge ++ rest) (hdue : s.dueWithin n) :
    ∃ u rs, runEdges k s = some (u, rs) ∧ rs ++ u.pending = s.pending ∧ s.sameRegisters u ∧
      u.unreset = false ∧ u.host = rest ∧ u.dueWithin (n - k) := by
  induction k generalizing s n with
  | zero => exact ⟨s, [], rfl, rfl, ⟨rfl, rfl, rfl⟩, hunreset, by simpa using hhost, hdue⟩
  | succ k ih =>
    have hcons : s.host = idleEdge :: (List.replicate k idleEdge ++ rest) := hhost
    obtain ⟨hstep, hpresented⟩ := step_idleEdge hunreset hcons
    obtain ⟨u, rs, hrun, hpending, hregs, hun, hrest, hwithin⟩ :=
      ih (s := s.elapse.advance) (n - 1) hunreset (by simp [hcons]) (dueWithin_elapse hdue)
    refine ⟨u, _, runEdges_succ_iff.2 ⟨_, rs, hstep, hrun, rfl⟩, ?_, hregs, hun, hrest, ?_⟩
    · rw [List.append_assoc, hpending, hpresented]
      exact dueResponse_append_elapse s
    · rwa [Nat.sub_sub, Nat.add_comm 1 k] at hwithin

/-- The command at the head of the host's events is accepted once the FHC is not busy (R109, R110). -/
theorem accepts_commandPins {s : State} {c : Command} {rest : List HostEvent} (hunreset : s.unreset = false)
    (hdue : s.dueWithin 0) (hhost : s.host = .clock (commandPins c) true :: rest) : s.accepts c.word := by
  have hpins : s.pins = commandPins c := by simp [State.pins, hhost]
  have hsampled : s.sampled = true := by simp [State.sampled, hhost]
  refine ⟨State.ready_iff.2 ⟨by rw [hpins]; rfl, hunreset, (dueResponse_of_dueWithin_zero hdue).1⟩,
    by rw [hpins]; rfl, by simp [State.missesResponse, hsampled], by rw [hpins, pinsWord_commandPins]⟩

/-- The edge that accepts a command does to the registers what the atomic command does, and puts the atomic
command's response in the place of the one that it presents (R112, R117). -/
theorem step_command_refines_runCommand {s s' : State} {c : Command} {rest : List HostEvent}
    (hregs : s'.sameRegisters s) (hunreset : s.unreset = false) (hdue : s.dueWithin 0)
    (hhost : s.host = .clock (commandPins c) true :: rest) :
    ∃ t r u, runCommand c s' = some (t, r) ∧ step s = .next u ∧ t.sameRegisters u ∧
      s.presented.toList = s.pending ∧ u.unreset = false ∧ u.host = rest ∧ u.answers (opOf c.word) r := by
  have hpins : s.pins = commandPins c := by simp [State.pins, hhost]
  have hsource : s.source = ({ s' with host := [.clock (commandPins c) true] } : State).source :=
    congrArg pinsSource hpins
  obtain ⟨t, u, ht, hu, hsame, hout⟩ :=
    acceptWord_congr c.word (s := { s' with host := [.clock (commandPins c) true] }) hregs hsource
  obtain ⟨u', r, hu', hanswers⟩ := acceptWord_answers c.word s
  cases hu.symm.trans hu'
  obtain ⟨-, hun, hrest, -⟩ := acceptWord_sameRest hu
  have hrun : runCommand c s' = some ({ t with host := s'.host, outstanding := none }, r) := by
    have hanswered : t.outstanding = some { left := _, response := r } := hout.symm.trans hanswers
    simp only [runCommand, ht, hanswered]
  refine ⟨_, r, u.advance, hrun, ?_, hsame, ?_, hun.trans hunreset, ?_, hanswers⟩
  · rw [step_of_accepts (accepts_commandPins hunreset hdue hhost), hu]
    rfl
  · rw [(port_signals (by rw [hpins]; rfl) hunreset).2, (dueResponse_of_dueWithin_zero hdue).2]
  · simp [hrest, hhost]

/-- All edges of one command: the response that was pending, and then the command's own, are presented or still
pending, and the FHC can accept again (R110, R111). -/
theorem runEdges_command_refines_runCommand {s s' : State} {c : Command} {gap : Nat} {rest : List HostEvent}
    (hregs : s'.sameRegisters s) (hunreset : s.unreset = false) (hdue : s.dueWithin 0)
    (hhost : s.host = commandEdges c gap ++ rest) :
    ∃ t r u rs, runCommand c s' = some (t, r) ∧ runEdges (commandEdges c gap).length s = some (u, rs) ∧
      rs ++ u.pending = s.pending ++ [r] ∧ t.sameRegisters u ∧ u.unreset = false ∧ u.host = rest ∧
      u.dueWithin 0 := by
  obtain ⟨t, r, v, hrun, hstep, hsame, hpresented, hun, hrest, hanswers⟩ :=
    step_command_refines_runCommand hregs hunreset hdue hhost
  have hlatency : v.dueWithin (Config.extraLatency (opOf c.word)) := by
    intro o ho
    cases hanswers.symm.trans ho
    exact Nat.le_refl _
  have hpending : v.pending = [r] := by
    rw [State.pending, hanswers]
    rfl
  obtain ⟨u, rs, hedges, hkept, hregs', hun', hrest', hdue'⟩ := runEdges_idle _ _ hun hrest hlatency
  refine ⟨t, r, u, s.presented.toList ++ rs, hrun, ?_, ?_, ?_, hun', hrest', ?_⟩
  · rw [commandEdges, List.length_cons, List.length_replicate]
    exact runEdges_succ_iff.2 ⟨v, rs, hstep, hedges, rfl⟩
  · rw [hpresented, List.append_assoc, hkept, hpending]
  · obtain ⟨h1, h2, h3⟩ := hsame
    obtain ⟨h1', h2', h3'⟩ := hregs'
    exact ⟨h1'.trans h1, h2'.trans h2, h3'.trans h3⟩
  · rwa [Nat.sub_eq_zero_of_le (Nat.le_add_right _ _)] at hdue'

/-- The first command of a schedule stands before the schedule of the rest. -/
theorem schedule_cons (c : Command) (gap : Nat) (cs : List (Command × Nat)) :
    schedule ((c, gap) :: cs) = commandEdges c gap ++ schedule cs := by
  simp [schedule]

/-- The refinement between commands: from a state that can accept, with a response perhaps still to be presented,
the edges of a schedule present that response and then those of the atomic run. -/
theorem runEdges_schedule_refines_runCommands (cs : List (Command × Nat)) {s s' : State}
    (hregs : s'.sameRegisters s) (hunreset : s.unreset = false) (hdue : s.dueWithin 0)
    (hhost : s.host = schedule cs) :
    ∃ t u rs, runCommands (cs.map Prod.fst) s' = some (t, rs) ∧
      runEdges (schedule cs).length s = some (u, s.pending ++ rs) ∧
      t.sameRegisters u ∧ u.outstanding = none ∧ u.host = [] := by
  induction cs generalizing s s' with
  | nil =>
    obtain ⟨hstep, hpresented⟩ := step_idleEdge hunreset hhost
    refine ⟨s', s.elapse.advance, [], rfl, ?_, hregs, elapse_outstanding_of_dueWithin_zero hdue,
      by simp [hhost, schedule]⟩
    rw [← (dueResponse_of_dueWithin_zero hdue).2, ← hpresented]
    exact runEdges_succ_iff.2 ⟨_, [], hstep, rfl, by simp⟩
  | cons p cs ih =>
    obtain ⟨c, gap⟩ := p
    rw [schedule_cons] at hhost ⊢
    obtain ⟨t₁, r, u₁, rs₁, hrun₁, hedges₁, hpending, hregs₁, hun₁, hhost₁, hdue₁⟩ :=
      runEdges_command_refines_runCommand hregs hunreset hdue hhost
    obtain ⟨t, u, rs, hrun, hedges, hend⟩ := ih hregs₁ hun₁ hdue₁ hhost₁
    have hresponses : rs₁ ++ (u₁.pending ++ rs) = s.pending ++ r :: rs := by
      rw [← List.append_assoc, hpending, List.append_assoc, List.singleton_append]
    refine ⟨t, u, r :: rs, by simp [runCommands, hrun₁, hrun], ?_, hend⟩
    rw [List.length_append, ← hresponses]
    exact runEdges_add hedges₁ hedges

end Sys2Proof.Machine
end

section
/-! CERTIFICATE. The statements on the port, the windows and the host's duties of `20_memory.md`. -/

namespace Sys2Proof.Proofs

open Sys2Proof.Machine

/-- Settles O41: an accepted word meets the invariant by itself, and at every other event that keeps the registers
the response only comes nearer. -/
theorem stepKeepsThePortInvariant : Obligations.StepKeepsThePortInvariant := by
  intro s t h hstep
  obtain ⟨u, hu, rfl⟩ := step_eq_next_iff.1 hstep
  exact advance_portInv (hostStep_portInv h hu)

/-- Settles O14: HDR_READ of a complete window reads nothing but that window, and HDR_WRITE keeps the registers that
its own window is made of. -/
theorem headerTransferIsIdempotent : Obligations.HeaderTransferIsIdempotent := by
  constructor
  · intro a a' s s' hsource havail
    refine ⟨_, _, exec_hdrRead_complete a havail, exec_hdrRead_complete a' (by rwa [hsource]), ?_, by simp⟩
    simp [State.sameRegisters, hsource]
  · intro a a' s
    have hsame : (s.respondSnk 0x02 s.headerBytes).headerBytes = s.headerBytes :=
      State.headerBytes_of_registers rfl rfl rfl
    refine ⟨_, _, s.headerBytes, rfl, rfl, rfl, ?_⟩
    rw [hsame]
    rfl

/-- Settles O45: a clock edge answers unless a duty is broken, a power cycle always does, and shared use of the port
never does. -/
theorem stepStopsOnlyOnBrokenDuties : Obligations.StepStopsOnlyOnBrokenDuties := by
  intro s
  have edge : (!s.presentsUnready && !s.missesResponse) = true ↔ ∃ t, clockEdge s = .next t := by
    simp only [clockEdge_answers_iff, Bool.and_eq_true, Bool.not_eq_true']
  rw [step_answers_iff]
  cases hhost : s.host with
  | nil => simpa only [State.hostKeepsDuties, hostStep, hhost] using edge
  | cons event rest =>
    cases event with
    | clock p b => simpa only [State.hostKeepsDuties, hostStep, hhost] using edge
    | powerCycle =>
      simp only [State.hostKeepsDuties, hostStep, hhost, true_iff]
      exact ⟨_, rfl⟩
    | sharedPort => simp only [State.hostKeepsDuties, hostStep, hhost, Bool.false_eq_true, reduceCtorEq, exists_false]

/-- Settles O54: the refinement from a state in which no response is pending. -/
theorem portRunRefinesCommandRun : Obligations.PortRunRefinesCommandRun := by
  intro cs s hunreset hidle hhost
  have hdue : s.dueWithin 0 := fun o ho => by simp [hidle] at ho
  have hpending : s.pending = [] := by simp [State.pending, hidle]
  obtain ⟨t, u, rs, hrun, hedges, hend⟩ :=
    runEdges_schedule_refines_runCommands cs (s := s) (s' := s) ⟨rfl, rfl, rfl⟩ hunreset hdue hhost
  rw [hpending] at hedges
  exact ⟨t, u, rs, hrun, hedges, hend⟩

end Sys2Proof.Proofs
end

section
/-! SUPPORT. Command words: the opcode map read both ways, and the decoder and the encoder as inverses of each other. -/

namespace Sys2Proof

/-- The opcode map of R49 read back is the mnemonic. -/
@[simp] theorem Mnemonic.ofOpcode_opcode (m : Mnemonic) : Mnemonic.ofOpcode m.opcode = some m := by
  cases m <;> rfl

/-- The nine opcodes are 0x01 to 0x09 (R49). -/
theorem Mnemonic.opcode_range (m : Mnemonic) : 1 ≤ m.opcode.toNat ∧ m.opcode.toNat ≤ 9 := by
  cases m <;> decide

/-- Every byte from 0x01 to 0x09 is the opcode of a command (R49). -/
theorem Mnemonic.exists_ofOpcode {op : Byte} (hlow : 1 ≤ op.toNat) (hhigh : op.toNat ≤ 9) :
    ∃ m, Mnemonic.ofOpcode op = some m := by
  unfold Mnemonic.ofOpcode
  interval_cases op.toNat <;> exact ⟨_, rfl⟩

/-- The reserved opcodes are 0x00 and 0x0A to 0xFF (R50). -/
theorem Mnemonic.ofOpcode_eq_none {op : Byte} (h : op.toNat = 0 ∨ 10 ≤ op.toNat) : Mnemonic.ofOpcode op = none := by
  cases hm : Mnemonic.ofOpcode op with
  | none => rfl
  | some m =>
    have hrange := m.opcode_range
    rw [Mnemonic.opcode_of_ofOpcode hm] at hrange
    omega

/-- A command made from a mnemonic and an ARG has that ARG. -/
@[simp] theorem Mnemonic.arg_withArg (m : Mnemonic) (arg : Word) : (m.withArg arg).arg = arg := by
  cases m <;> rfl

/-- A command is its mnemonic and its ARG (R44). -/
@[simp] theorem Instr.withArg_mnemonic_arg (i : Instr) : i.mnemonic.withArg i.arg = i := by
  cases i <;> rfl

/-- The encoding of a mnemonic's command is its opcode beside its ARG (R44). -/
theorem encode_withArg (m : Mnemonic) (arg : Word) : encode (m.withArg arg) = mkWord m.opcode arg := by
  rw [encode, Mnemonic.mnemonic_withArg, Mnemonic.arg_withArg]

/-- A word with the opcode of a command decodes to that command with the word's ARG (R49, R52). -/
theorem decode_of_opcode {w : CmdWord} {m : Mnemonic} (h : m.opcode = opOf w) :
    decode w = .ok (m.withArg (argOf w)) := by
  simp only [decode, ← h, Mnemonic.ofOpcode_opcode]

/-- A word with a reserved opcode decodes to that opcode's error (R50). -/
theorem decode_of_reserved {w : CmdWord} (h : Mnemonic.ofOpcode (opOf w) = none) :
    decode w = .error (.reservedOpcode (opOf w)) := by
  simp only [decode, h]

/-- A word that decodes to a command carries that command's ARG, also where the command ignores it (R44, R51). -/
theorem arg_of_decode {w : CmdWord} {i : Instr} (h : decode w = .ok i) : i.arg = argOf w := by
  unfold decode at h
  split at h
  · cases h
    exact Mnemonic.arg_withArg _ _
  · cases h

/-- Decoding and encoding are inverse to each other: a word decodes to a command just when it is that command's
encoding (R44, R49, R52). -/
theorem decode_eq_ok_iff {w : CmdWord} {i : Instr} : decode w = .ok i ↔ encode i = w := by
  constructor
  · intro h
    rw [encode, opcode_of_decode h, arg_of_decode h, mkWord_fields]
  · rintro rfl
    have hop : i.mnemonic.opcode = opOf (encode i) := (opOf_mkWord _ _).symm
    rw [decode_of_opcode hop, encode, argOf_mkWord, Instr.withArg_mnemonic_arg]

/-- Two words made of fields are one word just when the fields are the same (R44). -/
theorem mkWord_inj {op op' : Byte} {arg arg' : Word} :
    mkWord op arg = mkWord op' arg' ↔ op = op' ∧ arg = arg' := by
  constructor
  · intro h
    exact ⟨by simpa using congrArg opOf h, by simpa using congrArg argOf h⟩
  · rintro ⟨rfl, rfl⟩
    rfl

/-- The mask 0xFF_00000000 keeps OP and clears ARG (R49). -/
theorem mask_eq_mkWord_opOf (w : CmdWord) : w &&& 0xFF00000000 = mkWord (opOf w) 0 := by
  have hmask : (0xFF00000000 : CmdWord) = mkWord (BitVec.allOnes 8) 0 := by decide
  calc w &&& 0xFF00000000
      = mkWord (opOf w) (argOf w) &&& mkWord (BitVec.allOnes 8) 0 := by rw [mkWord_fields, hmask]
    _ = mkWord (opOf w &&& BitVec.allOnes 8) (argOf w &&& 0#32) := BitVec.and_append
    _ = mkWord (opOf w) 0 := by rw [BitVec.and_allOnes, BitVec.and_zero]; rfl

namespace Machine

/-- A word with the opcode of a command runs that command with the word's ARG (R52). -/
theorem acceptWord_of_opcode {w : CmdWord} {m : Mnemonic} (h : m.opcode = opOf w) (s : State) :
    acceptWord w s = exec (m.withArg (argOf w)) s := by
  simp only [acceptWord, decode_of_opcode h]

/-- A word with a reserved opcode raises ERR_ILLEGAL (R50, `60_exceptions.md` R90). -/
theorem acceptWord_of_reserved {w : CmdWord} (h : Mnemonic.ofOpcode (opOf w) = none) (s : State) :
    acceptWord w s = .next (s.raise (opOf w) .errIllegal) := by
  simp only [acceptWord, decode_of_reserved h, execReserved]

end Machine
end Sys2Proof
end

section
/-! SUPPORT. Buses and windows: the byte lanes of a packed window, and the header's fields in HDR_WRITE's bytes. -/

namespace Sys2Proof.Machine

/-- The bus of a window holds the byte at offset k in the lane of offset k (`30_encoding.md` R55): the lanes below it
and above it are passed over. -/
theorem busByte_packWindow (w : Window) (k : Nat) (hk : k < 16) : busByte (packWindow w) k = w[k] := by
  unfold busByte packWindow
  interval_cases k <;>
    simp (disch := decide) only [BitVec.extractLsb'_append_eq_of_le, BitVec.extractLsb'_append_eq_of_add_le] <;>
    exact BitVec.extractLsb'_eq_self

/-- Unpacking undoes packing (R55). -/
@[simp] theorem unpackWindow_packWindow (w : Window) : unpackWindow (packWindow w) = w := by
  ext1 k hk
  simp only [unpackWindow, Vector.getElem_ofFn, busByte_packWindow w k hk]

/-- A command on the input signals carries its source window (R46, R54, R55). -/
@[simp] theorem pinsSource_commandPins (c : Command) : pinsSource (commandPins c) = c.source := by
  simp only [pinsSource, commandPins, unpackWindow_packWindow]

/-- The two bytes of 16 neighbouring bits, the more significant one first, are those bits (`00_scope.md` R10). -/
theorem be16_extractLsb' {n : Nat} (v : BitVec n) (i : Nat) :
    be16 (v.extractLsb' (i + 8) 8) (v.extractLsb' i 8) = v.extractLsb' i 16 :=
  BitVec.extractLsb'_append_extractLsb'_eq_extractLsb' rfl

/-- The four bytes of 32 neighbouring bits, the most significant one first, are those bits (R10). -/
theorem be32_extractLsb' {n : Nat} (v : BitVec n) (i : Nat) :
    be32 (v.extractLsb' (i + 24) 8) (v.extractLsb' (i + 16) 8) (v.extractLsb' (i + 8) 8) (v.extractLsb' i 8) =
      v.extractLsb' i 32 := by
  have join (hi lo len : Nat) (h : hi = lo + 8) :
      v.extractLsb' hi len ++ v.extractLsb' lo 8 = v.extractLsb' lo (len + 8) :=
    BitVec.extractLsb'_append_extractLsb'_eq_extractLsb' h
  simp [be32, join]

/-- The lanes of offsets 0 and 1 are bits 127:112 of a bus (`30_encoding.md` R55). -/
theorem be16_busByte (b : Bus) : be16 (busByte b 0) (busByte b 1) = b.extractLsb' 112 16 :=
  be16_extractLsb' b 112

/-- The lanes of offsets 4 to 7 are bits 95:64 of a bus (R55). -/
theorem be32_busByte (b : Bus) :
    be32 (busByte b 4) (busByte b 5) (busByte b 6) (busByte b 7) = b.extractLsb' 64 32 :=
  be32_extractLsb' b 64

/-- The header's bytes at offsets 0 and 1 are SIZE, the one at 2 is MTYPE, those at 4 to 7 are ID
(`20_memory.md` R27, `40_header_transfer.md` R65). -/
theorem headerBytes_fields (s : State) :
    be16 s.headerBytes[0] s.headerBytes[1] = s.size ∧ s.headerBytes[2] = s.mtype ∧
      be32 s.headerBytes[4] s.headerBytes[5] s.headerBytes[6] s.headerBytes[7] = s.id := by
  simp only [headerBytes_eq]
  exact ⟨(be16_extractLsb' s.size 0).trans BitVec.extractLsb'_eq_self, rfl,
    (be32_extractLsb' s.id 0).trans BitVec.extractLsb'_eq_self⟩

end Sys2Proof.Machine
end

section
/-! SUPPORT. What each command and each accepted word reads, and the form of its response. -/

namespace Sys2Proof.Machine

/-- A response has the form that `30_encoding.md` R47 gives it for an opcode: a sink window for HDR_WRITE alone,
and a RESULT of the opcode's width, 0 on failure and for the opcodes that return nothing. -/
def Response.fitsOpcode (op : Byte) (r : Response) : Prop :=
  (r.snk ≠ none ↔ op = 0x02) ∧
  (r.status ≠ .ok → r.result = 0) ∧
  (op ≠ 0x04 → op ≠ 0x05 → op ≠ 0x07 → op ≠ 0x09 → r.result = 0) ∧
  (op = 0x04 ∨ op = 0x05 → r.result.toNat < 65536) ∧
  (op = 0x07 → r.result.toNat < 256)

/-- A response with RESULT 0 and no sink window fits every opcode but that of HDR_WRITE. -/
theorem fitsOpcode_zero {op : Byte} (e : Status) (hop : op ≠ 0x02) :
    (Response.mk e 0 none).fitsOpcode op := by
  exact ⟨by simpa using hop, fun _ => rfl, fun _ _ _ _ => rfl, fun _ => by simp, fun _ => by simp⟩

/-- The response of HDR_WRITE fits its opcode. -/
theorem fitsOpcode_snk (w : Window) : (snkResponse w).fitsOpcode 0x02 := by
  simp [Response.fitsOpcode, snkResponse]

/-- A 16-bit value fits the two opcodes that return one. -/
theorem fitsOpcode_half {op : Byte} (v : Half) (hop : op = 0x04 ∨ op = 0x05) :
    (okResponse (zextHalf v)).fitsOpcode op := by
  have hv : (zextHalf v).toNat < 65536 := by
    rw [zextHalf, BitVec.toNat_setWidth_of_le (by decide)]
    exact v.isLt
  obtain rfl | rfl := hop <;> simpa [Response.fitsOpcode, okResponse] using hv

/-- An 8-bit value fits the opcode of GET_MSG_TYPE. -/
theorem fitsOpcode_byte (v : Byte) : (okResponse (zextByte v)).fitsOpcode 0x07 := by
  have hv : (zextByte v).toNat < 256 := by
    rw [zextByte, BitVec.toNat_setWidth_of_le (by decide)]
    exact v.isLt
  simpa [Response.fitsOpcode, okResponse] using hv

/-- Every value fits the opcode of GET_ID. -/
theorem fitsOpcode_word (v : Word) : (okResponse v).fitsOpcode 0x09 := by
  simp [Response.fitsOpcode, okResponse]

/-- Every command is answered in the form of its opcode (R47). -/
theorem exec_fitsOpcode (i : Instr) (s : State) :
    ∃ t r, exec i s = .next t ∧ t.answers i.mnemonic.opcode r ∧ r.fitsOpcode i.mnemonic.opcode := by
  cases i with
  | hdrRead arg =>
    simp only [exec, execHdrRead_eq]
    split
    · exact ⟨_, _, rfl, rfl, fitsOpcode_zero (op := 0x01) _ (by decide)⟩
    · exact ⟨_, _, rfl, rfl, fitsOpcode_zero (op := 0x01) _ (by decide)⟩
  | hdrWrite arg => exact ⟨_, _, rfl, rfl, fitsOpcode_snk _⟩
  | setPayloadSize n =>
    simp only [exec, execSetPayloadSize_eq]
    split
    · exact ⟨_, _, rfl, rfl, fitsOpcode_zero (op := 0x03) _ (by decide)⟩
    · exact ⟨_, _, rfl, rfl, fitsOpcode_zero (op := 0x03) _ (by decide)⟩
  | getPayloadSize arg => exact ⟨_, _, rfl, rfl, fitsOpcode_half _ (.inl rfl)⟩
  | getFrameSize arg => exact ⟨_, _, rfl, rfl, fitsOpcode_half _ (.inr rfl)⟩
  | setMsgType v =>
    simp only [exec, execSetMsgType_eq]
    split
    · exact ⟨_, _, rfl, rfl, fitsOpcode_zero (op := 0x06) _ (by decide)⟩
    · exact ⟨_, _, rfl, rfl, fitsOpcode_zero (op := 0x06) _ (by decide)⟩
  | getMsgType arg => exact ⟨_, _, rfl, rfl, fitsOpcode_byte _⟩
  | setId id => exact ⟨_, _, rfl, rfl, fitsOpcode_zero (op := 0x08) _ (by decide)⟩
  | getId arg => exact ⟨_, _, rfl, rfl, fitsOpcode_word _⟩

/-- The six commands that do not use ARG do the same for every ARG (R51). -/
theorem exec_withArg_eq {m : Mnemonic} (h3 : m ≠ .setPayloadSize) (h6 : m ≠ .setMsgType) (h8 : m ≠ .setId)
    (a b : Word) (s : State) : exec (m.withArg a) s = exec (m.withArg b) s := by
  cases m with
  | setPayloadSize => exact absurd rfl h3
  | setMsgType => exact absurd rfl h6
  | setId => exact absurd rfl h8
  | hdrRead | hdrWrite | getPayloadSize | getFrameSize | getMsgType | getId => rfl

/-- No command but HDR_READ reads what the host drives (R46). -/
theorem exec_host {i : Instr} (hi : i.mnemonic ≠ .hdrRead) (s : State) (h : List HostEvent) :
    ∃ t, exec i s = .next t ∧ exec i { s with host := h } = .next { t with host := h } := by
  cases i with
  | hdrRead arg => exact absurd rfl hi
  | setPayloadSize n =>
    simp only [exec, execSetPayloadSize_eq]
    split
    · exact ⟨_, rfl, rfl⟩
    · exact ⟨_, rfl, rfl⟩
  | setMsgType v =>
    simp only [exec, execSetMsgType_eq]
    split
    · exact ⟨_, rfl, rfl⟩
    · exact ⟨_, rfl, rfl⟩
  | hdrWrite arg | getPayloadSize arg | getFrameSize arg | getMsgType arg | setId id | getId arg =>
    exact ⟨_, rfl, rfl⟩

end Sys2Proof.Machine
end

section
/-! SUPPORT. Runs of commands: what each command of the pseudo-instructions of `30_encoding.md` R58 does when it is
performed whole. -/

namespace Sys2Proof.Machine

/-- The state with these registers and no response on its way: what a command performed whole leaves
(`70_reset_and_hazards.md` R117). -/
def State.settled (s : State) (a : Half) (b : Byte) (c : Word) : State :=
  { s with size := a, mtype := b, id := c, outstanding := none }

@[simp] theorem State.settled_size (s : State) (a : Half) (b : Byte) (c : Word) : (s.settled a b c).size = a := rfl
@[simp] theorem State.settled_mtype (s : State) (a : Half) (b : Byte) (c : Word) : (s.settled a b c).mtype = b := rfl
@[simp] theorem State.settled_id (s : State) (a : Half) (b : Byte) (c : Word) : (s.settled a b c).id = c := rfl

/-- A plain command decodes to the command of its mnemonic. -/
theorem decode_plainCommand (m : Mnemonic) (arg : Word) : decode (plainCommand m arg).word = .ok (m.withArg arg) :=
  decode_eq_ok_iff.2 rfl

/-- A command performed whole: the registers that its meaning writes, and the response that it completes with
(R117). -/
theorem runCommand_of_exec {cmd : Command} {i : Instr} {s : State} {a : Half} {b : Byte} {c : Word} {op : Byte}
    {r : Response} (hdecode : decode cmd.word = .ok i)
    (hexec : exec i { s with host := [.clock (commandPins cmd) true] } =
      .next (State.complete
        { s with host := [.clock (commandPins cmd) true], size := a, mtype := b, id := c } op r)) :
    runCommand cmd s = some (s.settled a b c, r) := by
  simp only [runCommand, acceptWord, hdecode, hexec]
  rfl

/-- A run is its first command and the run from there (R117). -/
theorem runCommands_cons_of {cmd : Command} {cmds : List Command} {s t u : State} {r : Response}
    {rs : List Response} (hfirst : runCommand cmd s = some (t, r)) (hrest : runCommands cmds t = some (u, rs)) :
    runCommands (cmd :: cmds) s = some (u, r :: rs) := by
  simp only [runCommands, hfirst, hrest]

/-- SET_MSG_TYPE of a byte (`42_id_type_fields.md` R77). -/
theorem runCommand_setMsgType {v : Word} (h : v.toNat ≤ 255) (s : State) :
    runCommand (plainCommand .setMsgType v) s = some (s.settled s.size (v.extractLsb' 0 8) s.id, okResponse 0) :=
  runCommand_of_exec (i := .setMsgType v) (op := 0x06) (decode_plainCommand _ _)
    (by rw [exec, execSetMsgType_eq, if_neg (Nat.not_lt.2 h)]; rfl)

/-- SET_ID (R79). -/
theorem runCommand_setId (v : Word) (s : State) :
    runCommand (plainCommand .setId v) s = some (s.settled s.size s.mtype v, okResponse 0) :=
  runCommand_of_exec (decode_plainCommand _ _) rfl

/-- SET_PAYLOAD_SIZE of at most MAX_PAYLOAD (`41_size_fields.md` R69). -/
theorem runCommand_setPayloadSize {n : Word} (h : n.toNat ≤ 65519) (s : State) :
    runCommand (plainCommand .setPayloadSize n) s =
      some (s.settled ((n + 16).setWidth 16) s.mtype s.id, okResponse 0) :=
  runCommand_of_exec (i := .setPayloadSize n) (op := 0x03) (decode_plainCommand _ _)
    (by rw [exec, execSetPayloadSize_eq, if_neg (Nat.not_lt.2 h)]; rfl)

/-- SET_PAYLOAD_SIZE above MAX_PAYLOAD fails and keeps the registers (R69, R72). -/
theorem runCommand_setPayloadSize_tooLong {n : Word} (h : 65519 < n.toNat) (s : State) :
    runCommand (plainCommand .setPayloadSize n) s =
      some (s.settled s.size s.mtype s.id, failResponse .errRange) :=
  runCommand_of_exec (i := .setPayloadSize n) (op := 0x03) (decode_plainCommand _ _)
    (by rw [exec, execSetPayloadSize_eq, if_pos h]; rfl)

/-- HDR_WRITE gives the header of the registers (`40_header_transfer.md` R65). -/
theorem runCommand_hdrWrite (arg : Word) (s : State) :
    runCommand (plainCommand .hdrWrite arg) s =
      some (s.settled s.size s.mtype s.id, snkResponse s.headerBytes) :=
  runCommand_of_exec (decode_plainCommand _ _) rfl

/-- GET_PAYLOAD_SIZE (`41_size_fields.md` R70). -/
theorem runCommand_getPayloadSize (arg : Word) (s : State) :
    runCommand (plainCommand .getPayloadSize arg) s =
      some (s.settled s.size s.mtype s.id, okResponse (zextHalf (s.size - 16))) :=
  runCommand_of_exec (decode_plainCommand _ _) rfl

/-- GET_MSG_TYPE (`42_id_type_fields.md` R78). -/
theorem runCommand_getMsgType (arg : Word) (s : State) :
    runCommand (plainCommand .getMsgType arg) s =
      some (s.settled s.size s.mtype s.id, okResponse (zextByte s.mtype)) :=
  runCommand_of_exec (decode_plainCommand _ _) rfl

/-- GET_ID (R80). -/
theorem runCommand_getId (arg : Word) (s : State) :
    runCommand (plainCommand .getId arg) s = some (s.settled s.size s.mtype s.id, okResponse s.id) :=
  runCommand_of_exec (decode_plainCommand _ _) rfl

/-- HDR_READ of a complete window (`40_header_transfer.md` R61). -/
theorem runCommand_readCommand (arg : Word) (w : Window) (s : State) :
    runCommand (readCommand arg { avail := 16, bytes := w }) s =
      some (s.settled (be16 w[0] w[1]) w[2] (be32 w[4] w[5] w[6] w[7]), okResponse 0) := by
  refine runCommand_of_exec (i := .hdrRead arg) (op := 0x01) (decode_eq_ok_iff.2 rfl) ?_
  have hsource : ({ s with host := [.clock (commandPins (readCommand arg { avail := 16, bytes := w })) true] } :
      State).source = { avail := 16, bytes := w } := pinsSource_commandPins _
  have havail : 16 ≤ (16 : Avail).toNat := by decide
  rw [exec_hdrRead_complete arg (by rw [hsource]; exact havail)]
  simp only [hsource]
  rfl

/-- HDR_READ of the bytes that HDR_WRITE gives for `s` takes over the registers of `s` (R67). -/
theorem runCommand_readCommand_headerBytes (arg : Word) (s u : State) :
    runCommand (readCommand arg { avail := 16, bytes := s.headerBytes }) u =
      some (u.settled s.size s.mtype s.id, okResponse 0) := by
  obtain ⟨hsize, hmtype, hid⟩ := headerBytes_fields s
  rw [runCommand_readCommand, hsize, hmtype, hid]

/-- The payload length that SET_PAYLOAD_SIZE stored is the one that GET_PAYLOAD_SIZE returns
(`41_size_fields.md` R74). -/
theorem zextHalf_frameSize_sub {n : Word} (h : n.toNat ≤ 65519) :
    zextHalf ((n + 16).setWidth 16 - 16) = n := by
  unfold zextHalf
  bv_omega

/-- The byte that SET_MSG_TYPE stores is its operand (`42_id_type_fields.md` R77). -/
theorem toNat_extractLsb'_of_byte {v : Word} (h : v.toNat ≤ 255) : (v.extractLsb' 0 8).toNat = v.toNat := by
  rw [BitVec.extractLsb'_toNat, Nat.shiftRight_zero]
  omega

/-- The type that SET_MSG_TYPE stored is the one that GET_MSG_TYPE returns (R84). -/
theorem zextByte_extractLsb' {v : Word} (h : v.toNat ≤ 255) : zextByte (v.extractLsb' 0 8) = v := by
  apply BitVec.eq_of_toNat_eq
  rw [zextByte, BitVec.toNat_setWidth_of_le (by decide), toNat_extractLsb'_of_byte h]

/-- HDR_SET sets MTYPE and ID before its last command (`30_encoding.md` R58), whatever that one does. -/
theorem runCommands_hdrSet {s u v : State} {t id n : Word} {cmds : List Command} {r : Response}
    {rs : List Response} (ht : t.toNat ≤ 255)
    (hlast : runCommand (plainCommand .setPayloadSize n) (s.settled s.size (t.extractLsb' 0 8) id) = some (u, r))
    (hrest : runCommands cmds u = some (v, rs)) :
    runCommands (hdrSet t id n ++ cmds) s = some (v, okResponse 0 :: okResponse 0 :: r :: rs) :=
  runCommands_cons_of (runCommand_setMsgType ht s)
    (runCommands_cons_of (runCommand_setId id _) (runCommands_cons_of hlast hrest))

/-- HDR_BUILD sets the three registers and gives their header (R58, `40_header_transfer.md` R65). -/
theorem runCommands_hdrBuild {t n : Word} (id : Word) (ht : t.toNat ≤ 255) (hn : n.toNat ≤ 65519) (s : State) :
    runCommands (hdrBuild t id n) s =
      some (s.settled ((n + 16).setWidth 16) (t.extractLsb' 0 8) id,
        [okResponse 0, okResponse 0, okResponse 0,
          snkResponse (s.settled ((n + 16).setWidth 16) (t.extractLsb' 0 8) id).headerBytes]) :=
  runCommands_hdrSet ht (runCommand_setPayloadSize hn _) (runCommands_cons_of (runCommand_hdrWrite 0 _) rfl)

/-- HDR_RECV of the header of `s`, and then the getters: the fields of `s`, on any state (R58, R67). -/
theorem runCommands_hdrRecv_headerBytes (s u : State) :
    runCommands (hdrRecv { avail := 16, bytes := s.headerBytes } ++
        [plainCommand .getMsgType 0, plainCommand .getId 0]) u =
      some (u.settled s.size s.mtype s.id,
        [okResponse 0, okResponse (zextHalf (s.size - 16)), okResponse (zextByte s.mtype), okResponse s.id]) :=
  runCommands_cons_of (runCommand_readCommand_headerBytes 0 s u)
    (runCommands_cons_of (runCommand_getPayloadSize 0 _)
      (runCommands_cons_of (runCommand_getMsgType 0 _) (runCommands_cons_of (runCommand_getId 0 _) rfl)))

end Sys2Proof.Machine
end

section
/-! SUPPORT. The output signals: what `cmd_ready` and `rsp_valid` say of the busy state. -/

namespace Sys2Proof.Machine

/-- A response is due just when one is outstanding with no edge left (`70_reset_and_hazards.md` R111). -/
theorem dueResponse_eq_some_iff {s : State} {r : Response} :
    s.dueResponse = some r ↔ s.outstanding = some { left := 0, response := r } := by
  cases ho : s.outstanding with
  | none => simp [State.dueResponse, ho]
  | some o =>
    obtain ⟨left, r'⟩ := o
    simp [State.dueResponse, ho]

/-- In the cycle in which its response is due the FHC is not busy (R110). -/
theorem busy_of_dueResponse {s : State} {r : Response} (h : s.dueResponse = some r) : s.busy = false := by
  simp [State.busy, dueResponse_eq_some_iff.1 h]

/-- `rsp_valid` = 1 shows that a response is presented (`30_encoding.md` R54). -/
theorem outputs_rspValid_iff (s : State) : s.outputs.rspValid = true ↔ ∃ r, s.presented = some r :=
  Option.isSome_iff_exists

/-- A presented response stands on the response port (R54, R55). -/
theorem outputs_of_presented {s : State} {r : Response} (h : s.presented = some r) :
    s.outputs.rspStatus = r.status.code ∧ s.outputs.rspResult = r.result ∧
      ∀ w, r.snk = some w → s.outputs.snkBytes = packWindow w := by
  refine ⟨by simp only [State.outputs, h], by simp only [State.outputs, h], fun w hw => ?_⟩
  simp only [State.outputs, h, hw, Option.map_some, Option.getD_some]

end Sys2Proof.Machine
end

section
/-! CERTIFICATE. The statements on the command words, the buses, the assembler, the responses and the
pseudo-instructions of `30_encoding.md`. -/

namespace Sys2Proof.Proofs

open Sys2Proof.Machine

/-- Settles O1: a word decodes to the command that it encodes. -/
theorem decodeOfEncodeIsTheCommand : Obligations.DecodeOfEncodeIsTheCommand :=
  fun _ _ => decode_eq_ok_iff.2 rfl

/-- Settles O2: the other direction of the same equivalence. -/
theorem encodeOfDecodeIsTheWord : Obligations.EncodeOfDecodeIsTheWord :=
  fun _ _ h => decode_eq_ok_iff.1 h

/-- Settles O3: the opcode map is defined just on 0x01 to 0x09. -/
theorem decodeIsTotalByOpcode : Obligations.DecodeIsTotalByOpcode := by
  intro w
  constructor
  · rintro ⟨hlow, hhigh⟩
    obtain ⟨m, hm⟩ := Mnemonic.exists_ofOpcode hlow hhigh
    have hop := Mnemonic.opcode_of_ofOpcode hm
    exact ⟨m, hop, decode_of_opcode hop⟩
  · intro hreserved
    exact decode_of_reserved (Mnemonic.ofOpcode_eq_none hreserved)

/-- Settles O4: under the mask a word is its OP, and a word decodes to the command whose opcode is its OP. -/
theorem decodeAgreesWithMatchAndMask : Obligations.DecodeAgreesWithMatchAndMask := by
  intro m w
  rw [mask_eq_mkWord_opOf, mkWord_inj]
  constructor
  · rintro ⟨hop, -⟩
    exact ⟨argOf w, decode_of_opcode hop.symm⟩
  · rintro ⟨a, ha⟩
    have hop := opcode_of_decode ha
    rw [Mnemonic.mnemonic_withArg] at hop
    exact ⟨hop.symm, rfl⟩

/-- Settles O6: the lanes of a packed and of an unpacked window, and the header's fields on neighbouring lanes. -/
theorem busPackingIsWireOrder : Obligations.BusPackingIsWireOrder := by
  refine ⟨busByte_packWindow, fun b k hk => by simp only [unpackWindow, Vector.getElem_ofFn, busByte], fun s => ?_⟩
  obtain ⟨hsize, -, hid⟩ := headerBytes_fields s
  refine ⟨_, s.headerBytes, rfl, rfl, ?_, ?_⟩
  · rw [← be16_busByte, busByte_packWindow _ 0 (by decide), busByte_packWindow _ 1 (by decide), hsize]
  · rw [← be32_busByte, busByte_packWindow _ 4 (by decide), busByte_packWindow _ 5 (by decide),
      busByte_packWindow _ 6 (by decide), busByte_packWindow _ 7 (by decide), hid]

/-- Settles O27: a command's response fits its opcode, and a reserved opcode's is a failure's. -/
theorem everyWordGetsItsResponse : Obligations.EveryWordGetsItsResponse := by
  intro w s
  obtain ⟨i, hop, -, hi⟩ | ⟨hd, hraise⟩ := acceptWord_cases w
  · rw [← hop, hi]
    exact exec_fitsOpcode i s
  · refine ⟨_, _, hraise s, rfl, fitsOpcode_zero _ fun hop => ?_⟩
    rw [decode_of_opcode (m := .hdrWrite) hop.symm] at hd
    cases hd

/-- Settles O28: the word's command is that of its opcode, and it uses ARG only under 0x03, 0x06 and 0x08. -/
theorem ignoredArgHasNoEffect : Obligations.IgnoredArgHasNoEffect := by
  intro op a b s h3 h6 h8
  cases hm : Mnemonic.ofOpcode op with
  | none =>
    rw [acceptWord_of_reserved (by rw [opOf_mkWord, hm]), acceptWord_of_reserved (by rw [opOf_mkWord, hm]),
      opOf_mkWord, opOf_mkWord]
  | some m =>
    obtain rfl := Mnemonic.opcode_of_ofOpcode hm
    rw [acceptWord_of_opcode (opOf_mkWord _ a).symm, acceptWord_of_opcode (opOf_mkWord _ b).symm]
    have ne {m' : Mnemonic} (h : m.opcode ≠ m'.opcode) : m ≠ m' := fun he => h (he ▸ rfl)
    exact exec_withArg_eq (ne h3) (ne h6) (ne h8) _ _ s

/-- Settles O29: a command that is not HDR_READ does not read the host's signals, nor does a reserved opcode. -/
theorem onlyHdrReadReadsTheSourceWindow : Obligations.OnlyHdrReadReadsTheSourceWindow := by
  intro w s h hw
  obtain ⟨i, hop, -, hi⟩ | ⟨-, hraise⟩ := acceptWord_cases w
  · have hread : i.mnemonic ≠ .hdrRead := fun he => hw (by rw [← hop, he]; rfl)
    rw [hi, hi]
    exact exec_host hread s h
  · exact ⟨_, hraise s, hraise _⟩

/-- Settles O37: the first two commands of HDR_SET write their registers, and the third fails and keeps them. -/
theorem hdrSetIsNotAtomic : Obligations.HdrSetIsNotAtomic := by
  intro s t id n ht hn
  exact ⟨_, runCommands_hdrSet ht (runCommand_setPayloadSize_tooLong hn _) rfl,
    toNat_extractLsb'_of_byte ht, rfl, rfl⟩

/-- Settles O38: HDR_BUILD writes the header of the registers that it set, HDR_RECV takes over these registers, and
the getters return them. -/
theorem buildThenReceiveGivesTheFields : Obligations.BuildThenReceiveGivesTheFields := by
  intro s u t id n ht hn
  have hrecv := runCommands_hdrRecv_headerBytes (s.settled ((n + 16).setWidth 16) (t.extractLsb' 0 8) id) u
  simp only [State.settled_size, State.settled_mtype, State.settled_id, zextHalf_frameSize_sub hn,
    zextByte_extractLsb' ht] at hrecv
  exact ⟨_, _, _, runCommands_hdrBuild id ht hn s, hrecv⟩

/-- Settles O5: OP and ARG of each word are read off it. -/
theorem writtenOutWordsDecode : Obligations.WrittenOutWordsDecode := by
  unfold Obligations.WrittenOutWordsDecode
  decide

/-- Settles O7: there are four codes and four statuses. -/
theorem statusCodesAreTheSpecs : Obligations.StatusCodesAreTheSpecs := by
  refine ⟨rfl, rfl, rfl, rfl, by decide, fun e => ?_⟩
  cases e <;> rfl

/-- Settles O8: the line's only check is that the number has 32 bits, and its command is the mnemonic's encoding. -/
theorem assemblerRefusesOnlyWideNumbers : Obligations.AssemblerRefusesOnlyWideNumbers := by
  intro m imm hm
  have hcheck : (AsmLine.plain m imm).wellFormed = true ↔ imm < 2 ^ 32 := by
    simp [AsmLine.wellFormed, argFits, hm]
  constructor
  · intro hwide
    rw [assemble, if_neg (by rw [hcheck]; exact Nat.not_lt.2 hwide)]
  · intro hfits
    have hword : (plainCommand m (BitVec.ofNat 32 imm)).word = mkWord m.opcode (BitVec.ofNat 32 imm) :=
      encode_withArg _ _
    refine ⟨plainCommand m (BitVec.ofNat 32 imm), by rw [assemble, if_pos (hcheck.2 hfits)], ?_, ?_⟩
    · rw [hword, opOf_mkWord]
    · rw [hword, argOf_mkWord, BitVec.toNat_ofNat, Nat.mod_eq_of_lt hfits]

/-- Settles O53: with `rst` = 0 after a reset the two signals are those of the busy state, and a due response is not
waited for. -/
theorem presentedResponseIsOnThePort : Obligations.PresentedResponseIsOnThePort := by
  refine ⟨fun s hunreset hrst => ?_, fun s => ⟨outputs_rspValid_iff s, ?_, ?_⟩, fun s r => outputs_of_presented⟩
  · obtain ⟨hready, hpresented⟩ := port_signals hrst hunreset
    have hcmd : s.outputs.cmdReady = true ↔ s.busy = false := by simp [State.outputs, hready]
    rw [hcmd, outputs_rspValid_iff, hpresented]
    exact ⟨Iff.rfl, exists_congr fun r => dueResponse_eq_some_iff, fun ⟨r, hr⟩ => busy_of_dueResponse hr⟩
  · simp [State.presentsUnready, State.outputs]
  · simp [State.missesResponse, State.outputs]

end Sys2Proof.Proofs
end

section
/-! SUPPORT. HDR_READ of a short window, and the header's bytes from the fields that they hold. -/

namespace Sys2Proof.Machine

/-- HDR_READ of a window with fewer than 16 bytes raises ERR_SHORT (`40_header_transfer.md` R61). -/
theorem exec_hdrRead_short (arg : Word) {s : State} (h : s.source.avail.toNat < 16) :
    exec (.hdrRead arg) s = .next (s.raise 0x01 .errShort) := by
  rw [exec, execHdrRead_eq, if_pos h]

/-- HDR_WRITE gives 0 at the reserved offsets 3 and 8 to 15 (`20_memory.md` R27, `40_header_transfer.md` R65). -/
theorem headerBytes_reserved (s : State) {k : Nat} (hk : k < 16) (h : k = 3 ∨ 8 ≤ k) : s.headerBytes[k] = 0x00 := by
  simp only [headerBytes_eq]
  obtain rfl | h8 := h
  · rfl
  · interval_cases k <;> rfl

/-- A 16-bit integer has one pair of bytes (`00_scope.md` R10). -/
theorem be16_inj {a b a' b' : Byte} (h : be16 a b = be16 a' b') : a = a' ∧ b = b' := by
  have hval := congrArg BitVec.toNat h
  rw [be16_toNat, be16_toNat] at hval
  constructor <;> bv_omega

/-- A 32-bit integer has one row of four bytes (R10). -/
theorem be32_inj {a b c d a' b' c' d' : Byte} (h : be32 a b c d = be32 a' b' c' d') :
    a = a' ∧ b = b' ∧ c = c' ∧ d = d' := by
  have hval := congrArg BitVec.toNat h
  rw [be32_toNat, be32_toNat] at hval
  refine ⟨?_, ?_, ?_, ?_⟩ <;> bv_omega

/-- The header of registers that were loaded from a window is that window with the reserved bytes 0
(`40_header_transfer.md` R68). -/
theorem headerBytes_of_loaded {t : State} {b : Window} (hsize : t.size = be16 b[0] b[1]) (hmtype : t.mtype = b[2])
    (hid : t.id = be32 b[4] b[5] b[6] b[7]) (k : Nat) (hk : k < 16) :
    t.headerBytes[k] = if k = 3 ∨ 8 ≤ k then 0x00 else b[k] := by
  split
  · exact headerBytes_reserved t hk ‹_›
  · obtain ⟨hsize', h2, hid'⟩ := headerBytes_fields t
    obtain ⟨h0, h1⟩ := be16_inj (hsize'.trans hsize)
    obtain ⟨h4, h5, h6, h7⟩ := be32_inj (hid'.trans hid)
    have hfield : k = 0 ∨ k = 1 ∨ k = 2 ∨ k = 4 ∨ k = 5 ∨ k = 6 ∨ k = 7 := by omega
    obtain rfl | rfl | rfl | rfl | rfl | rfl | rfl := hfield
    exacts [h0, h1, h2.trans hmtype, h4, h5, h6, h7]

end Sys2Proof.Machine
end

section
/-! CERTIFICATE. The statements on HDR_READ and HDR_WRITE of `40_header_transfer.md`. -/

namespace Sys2Proof.Proofs

open Sys2Proof.Machine

/-- Settles O12: HDR_READ's two branches, and the integers that the loaded bytes stand for. -/
theorem hdrReadLoadsOrFailsShort : Obligations.HdrReadLoadsOrFailsShort := by
  intro arg s
  constructor
  · intro hfull
    have hexec := exec_hdrRead_complete arg hfull
    exact ⟨_, hexec, exec_sameRest hexec, rfl, be16_toNat _ _, rfl, be32_toNat _ _ _ _⟩
  · intro hshort
    have hexec := exec_hdrRead_short arg hshort
    exact ⟨_, hexec, exec_sameRest hexec, rfl, rfl, rfl, rfl⟩

/-- Settles O13: a short window fails by AVAIL alone, and of a complete one only the bytes at the offsets of the
fields are loaded. -/
theorem hdrReadIgnoresReservedBytes : Obligations.HdrReadIgnoresReservedBytes := by
  intro arg s h havail hbytes
  by_cases hfull : 16 ≤ s.source.avail.toNat
  · refine ⟨_, exec_hdrRead_complete arg hfull, ?_⟩
    rw [exec_hdrRead_complete arg (by rwa [havail])]
    simp (disch := decide) only [hbytes hfull]
    rfl
  · have hshort := Nat.lt_of_not_le hfull
    exact ⟨_, exec_hdrRead_short arg hshort, exec_hdrRead_short arg (by rwa [havail])⟩

/-- Settles O15: HDR_WRITE's sink window is the header of the registers, whose bytes hold the fields. -/
theorem hdrWriteSerializesTheRegisters : Obligations.HdrWriteSerializesTheRegisters := by
  intro arg s
  obtain ⟨hsize, hmtype, hid⟩ := headerBytes_fields s
  refine ⟨_, s.headerBytes, rfl, ⟨rfl, rfl, rfl, rfl⟩, ⟨rfl, rfl, rfl⟩, rfl, ?_, hmtype,
    headerBytes_reserved s (by decide) (.inl rfl), ?_, fun k hk h8 => headerBytes_reserved s hk (.inr h8)⟩
  · rw [← be16_toNat, hsize]
  · rw [← be32_toNat, hid]

/-- Settles O32: HDR_READ takes the fields from the header that HDR_WRITE made of them. -/
theorem writeThenReadGivesTheRegisters : Obligations.WriteThenReadGivesTheRegisters := by
  intro s u
  exact ⟨_, s.headerBytes, _, runCommand_hdrWrite 0 s, runCommand_readCommand_headerBytes 0 s u, rfl, rfl, rfl⟩

/-- Settles O33: HDR_WRITE gives the header of the registers that HDR_READ loaded. -/
theorem readThenWriteGivesTheBytes : Obligations.ReadThenWriteGivesTheBytes := by
  intro s b
  exact ⟨_, _, _, runCommand_readCommand 0 b s, runCommand_hdrWrite 0 _, headerBytes_of_loaded rfl rfl rfl⟩

end Sys2Proof.Proofs
end

section
/-! SUPPORT. The size commands by case, the integers that they store and return, and which accepted word makes a
valid header invalid. -/

namespace Sys2Proof.Machine

/-- SET_PAYLOAD_SIZE of at most MAX_PAYLOAD writes SIZE (`41_size_fields.md` R69). -/
theorem exec_setPayloadSize {n : Word} (h : n.toNat ≤ 65519) (s : State) :
    exec (.setPayloadSize n) s = .next ((s.setSize ((n + 16).setWidth 16)).respond 0x03 0) := by
  rw [exec, execSetPayloadSize_eq, if_neg (Nat.not_lt.2 h)]

/-- SET_PAYLOAD_SIZE above MAX_PAYLOAD raises ERR_RANGE (R69, R72). -/
theorem exec_setPayloadSize_tooLong {n : Word} (h : 65519 < n.toNat) (s : State) :
    exec (.setPayloadSize n) s = .next (s.raise 0x03 .errRange) := by
  rw [exec, execSetPayloadSize_eq, if_pos h]

/-- GET_FRAME_SIZE (R71). -/
theorem runCommand_getFrameSize (arg : Word) (s : State) :
    runCommand (plainCommand .getFrameSize arg) s =
      some (s.settled s.size s.mtype s.id, okResponse (zextHalf s.size)) :=
  runCommand_of_exec (decode_plainCommand _ _) rfl

/-- Zero extension keeps the value (`00_scope.md` R8). -/
theorem toNat_zextHalf (v : Half) : (zextHalf v).toNat = v.toNat :=
  BitVec.toNat_setWidth_of_le (by decide)

/-- SIZE less 16 is computed modulo 2^16 (`41_size_fields.md` R70, R73). -/
theorem toNat_zextHalf_sub_header (v : Half) : (zextHalf (v - 16)).toNat = (v.toNat + 65536 - 16) % 65536 := by
  rw [toNat_zextHalf]
  bv_omega

/-- The frame of a legal payload fits 16 bits, so SIZE loses nothing (R69). -/
theorem toNat_frameSize {n : Word} (h : n.toNat ≤ 65519) : ((n + 16).setWidth 16).toNat = n.toNat + 16 := by
  bv_omega

/-- The frame size that SET_PAYLOAD_SIZE stored is the one that GET_FRAME_SIZE returns (R74). -/
theorem zextHalf_frameSize {n : Word} (h : n.toNat ≤ 65519) : zextHalf ((n + 16).setWidth 16) = n + 16 := by
  unfold zextHalf
  bv_omega

/-- A valid header becomes invalid only by the word of an HDR_READ that loads an invalid one: the only other
command that writes SIZE stores at least 16 (R75). -/
theorem acceptWord_breaks_validHeader {w : CmdWord} {s t : State} (h : acceptWord w s = .next t)
    (hvalid : s.validHeader) (hbroken : ¬ t.validHeader) :
    opOf w = 0x01 ∧ 16 ≤ s.source.avail.toNat ∧
      256 * s.source.bytes[0].toNat + s.source.bytes[1].toNat < 16 := by
  have hchanged : t.size ≠ s.size := fun hsize => hbroken (by rwa [State.validHeader, hsize])
  obtain hsize | hread | hset := (acceptWord_registers h).1
  · exact absurd hsize hchanged
  · rw [acceptWord_of_opcode (m := .hdrRead) hread.symm, Mnemonic.withArg] at h
    by_cases hfull : 16 ≤ s.source.avail.toNat
    · cases (exec_hdrRead_complete _ hfull).symm.trans h
      refine ⟨hread, hfull, ?_⟩
      rw [← be16_toNat]
      exact Nat.lt_of_not_le hbroken
    · cases (exec_hdrRead_short _ (Nat.lt_of_not_le hfull)).symm.trans h
      exact absurd rfl hchanged
  · rw [acceptWord_of_opcode (m := .setPayloadSize) hset.symm, Mnemonic.withArg] at h
    by_cases hn : (argOf w).toNat ≤ 65519
    · cases (exec_setPayloadSize hn s).symm.trans h
      refine absurd ?_ hbroken
      rw [State.validHeader, State.respond_size, State.setSize_size, toNat_frameSize hn]
      exact Nat.le_add_left 16 _
    · cases (exec_setPayloadSize_tooLong (Nat.lt_of_not_le hn) s).symm.trans h
      exact absurd rfl hchanged

end Sys2Proof.Machine
end

section
/-! CERTIFICATE. The statements on the size fields of `41_size_fields.md`. -/

namespace Sys2Proof.Proofs

open Sys2Proof.Machine

/-- Settles O43: a step that keeps the power keeps SIZE, resets it to 16, or runs an accepted word, and of these
only an HDR_READ breaks a valid header. -/
theorem onlyHdrReadBreaksTheValidHeader : Obligations.OnlyHdrReadBreaksTheValidHeader := by
  intro s t hunreset hpowered hvalid hstep hbroken
  obtain ⟨hsize, -, -⟩ | ⟨-, hsize, -⟩ | ⟨w, u, hacc, hu, rfl⟩ := step_next_registers hunreset hpowered hstep
  · exact absurd (by rwa [State.validHeader, hsize]) hbroken
  · exact absurd (by rw [State.validHeader, hsize]; decide) hbroken
  · exact ⟨w, hacc, acceptWord_breaks_validHeader hu hvalid hbroken⟩

/-- Settles O16: the two cases of SET_PAYLOAD_SIZE, and no bit of n + 16 is lost in the first. -/
theorem setPayloadSizeAddsHeaderOrFails : Obligations.SetPayloadSizeAddsHeaderOrFails := by
  intro n s
  constructor
  · intro hfits
    have hexec := exec_setPayloadSize hfits s
    exact ⟨_, hexec, exec_sameRest hexec, rfl, toNat_frameSize hfits, rfl, rfl⟩
  · intro hlong
    have hexec := exec_setPayloadSize_tooLong hlong s
    exact ⟨_, hexec, exec_sameRest hexec, rfl, rfl, rfl, rfl⟩

/-- Settles O18: modulo 2^16 the subtraction wraps just for SIZE below 16. -/
theorem getPayloadSizeTellsInvalidHeaders : Obligations.GetPayloadSizeTellsInvalidHeaders := by
  intro arg s
  have hvalue := toNat_zextHalf_sub_header s.size
  have hsize := s.size.isLt
  refine ⟨_, zextHalf (s.size - 16), rfl, rfl, fun hinvalid => ?_, fun hvalid => ?_⟩ <;> omega

/-- Settles O34: both getters return what SET_PAYLOAD_SIZE stored, and a failing one keeps SIZE. -/
theorem setThenGetPayloadSize : Obligations.SetThenGetPayloadSize := by
  intro s n
  constructor
  · intro hfits
    have hget := runCommand_getPayloadSize 0 (s.settled ((n + 16).setWidth 16) s.mtype s.id)
    have hframe := runCommand_getFrameSize 0 (s.settled ((n + 16).setWidth 16) s.mtype s.id)
    rw [State.settled_size, zextHalf_frameSize_sub hfits] at hget
    rw [State.settled_size, zextHalf_frameSize hfits] at hframe
    exact ⟨_, runCommands_cons_of (runCommand_setPayloadSize hfits s)
      (runCommands_cons_of hget (runCommands_cons_of hframe rfl))⟩
  · intro hlong
    exact ⟨_, runCommand_setPayloadSize_tooLong hlong s, rfl⟩

/-- Settles O17: the result is SIZE less 16 modulo 2^16. -/
theorem getPayloadSizeReturnsSizeLess16 : Obligations.GetPayloadSizeReturnsSizeLess16 := by
  intro arg s
  exact ⟨_, _, rfl, ⟨rfl, rfl, rfl, rfl⟩, ⟨rfl, rfl, rfl⟩, rfl, toNat_zextHalf_sub_header s.size⟩

/-- Settles O19: the result is SIZE, extended with zeros. -/
theorem getFrameSizeReturnsSize : Obligations.GetFrameSizeReturnsSize := by
  intro arg s
  exact ⟨_, _, rfl, ⟨rfl, rfl, rfl, rfl⟩, ⟨rfl, rfl, rfl⟩, rfl, toNat_zextHalf s.size⟩

end Sys2Proof.Proofs
end

section
/-! SUPPORT. The type commands by case, runs of appended and of permuted lists of commands, and that the setters
commute. -/

namespace Sys2Proof.Machine

/-- SET_MSG_TYPE of a byte writes MTYPE (`42_id_type_fields.md` R77). -/
theorem exec_setMsgType {v : Word} (h : v.toNat ≤ 255) (s : State) :
    exec (.setMsgType v) s = .next ((s.setMtype (v.extractLsb' 0 8)).respond 0x06 0) := by
  rw [exec, execSetMsgType_eq, if_neg (Nat.not_lt.2 h)]

/-- SET_MSG_TYPE above one byte raises ERR_RANGE (R77). -/
theorem exec_setMsgType_tooLarge {v : Word} (h : 255 < v.toNat) (s : State) :
    exec (.setMsgType v) s = .next (s.raise 0x06 .errRange) := by
  rw [exec, execSetMsgType_eq, if_pos h]

/-- SET_MSG_TYPE above one byte, performed whole, fails and keeps the registers (R77, R84). -/
theorem runCommand_setMsgType_tooLarge {v : Word} (h : 255 < v.toNat) (s : State) :
    runCommand (plainCommand .setMsgType v) s =
      some (s.settled s.size s.mtype s.id, failResponse .errRange) :=
  runCommand_of_exec (decode_plainCommand .setMsgType v) (exec_setMsgType_tooLarge h _)

/-- Zero extension of MTYPE keeps the value (`00_scope.md` R8). -/
theorem toNat_zextByte (v : Byte) : (zextByte v).toNat = v.toNat :=
  BitVec.toNat_setWidth_of_le (by decide)

/-- The run of two lists, one after the other, is the first run and the second from where it ends
(`70_reset_and_hazards.md` R117). -/
theorem runCommands_append (cs ds : List Command) (s : State) :
    runCommands (cs ++ ds) s =
      (runCommands cs s).bind fun p => (runCommands ds p.1).map fun q => (q.1, p.2 ++ q.2) := by
  induction cs generalizing s with
  | nil => simp [runCommands]
  | cons c cs ih =>
    rw [List.cons_append, runCommands, runCommands]
    cases runCommand c s with
    | none => rfl
    | some first =>
      simp only [ih]
      cases runCommands cs first.1 with
      | none => rfl
      | some rest => cases h : runCommands ds rest.1 <;> simp [h]

/-- In either order the two commands give the same end state and the same list of responses. -/
def CommandsCommute (c d : Command) : Prop := ∀ s, runCommands [c, d] s = runCommands [d, c] s

/-- Commands that get the same response and have commuting effects on the state commute. -/
theorem commandsCommute_of {c d : Command} {f g : State → State} {r : Response}
    (hc : ∀ s, runCommand c s = some (f s, r)) (hd : ∀ s, runCommand d s = some (g s, r))
    (hfg : ∀ s, g (f s) = f (g s)) : CommandsCommute c d := by
  intro s
  rw [runCommands_cons_of (hc s) (runCommands_cons_of (hd _) rfl),
    runCommands_cons_of (hd s) (runCommands_cons_of (hc _) rfl), hfg]

/-- A list of commands that commute pairwise has the same run in every order. -/
theorem runCommands_perm {cs ds : List Command} (hperm : cs.Perm ds) (hcomm : cs.Pairwise CommandsCommute)
    (s : State) : runCommands cs s = runCommands ds s := by
  induction hperm generalizing s with
  | nil => rfl
  | cons c _ ih =>
    simp only [runCommands, ih (List.pairwise_cons.1 hcomm).2]
  | swap c d cs =>
    have hdc : CommandsCommute d c := List.rel_of_pairwise_cons hcomm (List.mem_cons_self ..)
    calc runCommands ([d, c] ++ cs) s
      _ = runCommands ([c, d] ++ cs) s := by rw [runCommands_append, hdc, ← runCommands_append]
  | trans hperm _ ih ih' =>
    exact (ih hcomm s).trans (ih' (hcomm.perm hperm fun h s => (h s).symm) s)

/-- The three setters of HDR_SET, none of them failing, commute: each writes a register of its own
(`30_encoding.md` R58, `42_id_type_fields.md` R84). -/
theorem hdrSet_pairwise_commute {t n : Word} (id : Word) (ht : t.toNat ≤ 255) (hn : n.toNat ≤ 65519) :
    (hdrSet t id n).Pairwise CommandsCommute := by
  have htype_id := commandsCommute_of (runCommand_setMsgType ht) (runCommand_setId id) fun _ => rfl
  have htype_size := commandsCommute_of (runCommand_setMsgType ht) (runCommand_setPayloadSize hn) fun _ => rfl
  have hid_size := commandsCommute_of (runCommand_setId id) (runCommand_setPayloadSize hn) fun _ => rfl
  simp [hdrSet, htype_id, htype_size, hid_size]

end Sys2Proof.Machine
end

section
/-! CERTIFICATE. The statements on the type and ID fields of `42_id_type_fields.md`. -/

namespace Sys2Proof.Proofs

open Sys2Proof.Machine

/-- Settles O20: the two cases of SET_MSG_TYPE, and no bit of a legal type is lost in the first. -/
theorem setMsgTypeStoresByteOrFails : Obligations.SetMsgTypeStoresByteOrFails := by
  intro v s
  constructor
  · intro hbyte
    have hexec := exec_setMsgType hbyte s
    exact ⟨_, hexec, exec_sameRest hexec, rfl, toNat_extractLsb'_of_byte hbyte, rfl, rfl⟩
  · intro hlarge
    have hexec := exec_setMsgType_tooLarge hlarge s
    exact ⟨_, hexec, exec_sameRest hexec, rfl, rfl, rfl, rfl⟩

/-- Settles O35: each getter returns what its setter stored, and a failing SET_MSG_TYPE keeps MTYPE. -/
theorem setThenGetTypeAndId : Obligations.SetThenGetTypeAndId := by
  intro s v
  refine ⟨fun hbyte => ?_, fun hlarge => ?_, ?_⟩
  · have hget := runCommand_getMsgType 0 (s.settled s.size (v.extractLsb' 0 8) s.id)
    rw [State.settled_mtype, zextByte_extractLsb' hbyte] at hget
    exact ⟨_, runCommands_cons_of (runCommand_setMsgType hbyte s) (runCommands_cons_of hget rfl)⟩
  · exact ⟨_, runCommand_setMsgType_tooLarge hlarge s, rfl⟩
  · exact ⟨_, runCommands_cons_of (runCommand_setId v s) (runCommands_cons_of (runCommand_getId 0 _) rfl)⟩

/-- Settles O36: the setters commute, so every order of them has the run of HDR_SET. -/
theorem settersCommute : Obligations.SettersCommute := by
  intro s t id n cs ht hn hperm
  rw [← runCommands_perm hperm.symm (hdrSet_pairwise_commute id ht hn)]
  exact ⟨_, runCommands_hdrSet ht (runCommand_setPayloadSize hn _) rfl,
    toNat_frameSize hn, toNat_extractLsb'_of_byte ht, rfl⟩

/-- Settles O21: the result is MTYPE, extended with zeros. -/
theorem getMsgTypeReturnsMtype : Obligations.GetMsgTypeReturnsMtype := by
  intro arg s
  exact ⟨_, _, rfl, ⟨rfl, rfl, rfl, rfl⟩, ⟨rfl, rfl, rfl⟩, rfl, toNat_zextByte s.mtype⟩

/-- Settles O22: SET_ID writes ID and completes, whatever the value. -/
theorem setIdStoresEveryValue : Obligations.SetIdStoresEveryValue := by
  intro id s
  exact ⟨_, rfl, ⟨rfl, rfl, rfl, rfl⟩, rfl, rfl, rfl, rfl⟩

/-- Settles O23: the result is ID itself. -/
theorem getIdReturnsId : Obligations.GetIdReturnsId := by
  intro arg s
  exact ⟨_, rfl, ⟨rfl, rfl, rfl, rfl⟩, ⟨rfl, rfl, rfl⟩, rfl⟩

end Sys2Proof.Proofs
end

section
/-! SUPPORT. Failure: the condition of each error status, and that a failing word is `raise` and nothing else; a
command performed whole, and the runs made of such commands. -/

namespace Sys2Proof.Machine

/-- A status is an error just under the condition that the list of failures gives for it (`60_exceptions.md` R87 to
R90): by the opcode, by ARG, and by the AVAIL beside the word. -/
def Status.fitsConditions (e : Status) (op : Byte) (arg : Word) (avail : Avail) : Prop :=
  (e = .errShort ↔ (op = 0x01 ∧ avail.toNat < 16)) ∧
  (e = .errRange ↔ ((op = 0x03 ∧ 65519 < arg.toNat) ∨ (op = 0x06 ∧ 255 < arg.toNat))) ∧
  (e = .errIllegal ↔ (op.toNat = 0 ∨ 10 ≤ op.toNat))

/-- The conditions of the nine commands, by mnemonic: one command can fail short, two out of range, and none is
illegal (R87). -/
theorem fitsConditions_opcode_iff {e : Status} {m : Mnemonic} {arg : Word} {avail : Avail} :
    e.fitsConditions m.opcode arg avail ↔
      (e = .errShort ↔ (m = .hdrRead ∧ avail.toNat < 16)) ∧
      (e = .errRange ↔ ((m = .setPayloadSize ∧ 65519 < arg.toNat) ∨ (m = .setMsgType ∧ 255 < arg.toNat))) ∧
      e ≠ .errIllegal := by
  cases m <;> simp [Status.fitsConditions, Mnemonic.opcode]

/-- ERR_ILLEGAL is the status of every reserved opcode (R90). -/
theorem fitsConditions_reserved {op : Byte} (h : op.toNat = 0 ∨ 10 ≤ op.toNat) (arg : Word) (avail : Avail) :
    Status.errIllegal.fitsConditions op arg avail := by
  have ne (k : Byte) (hlow : 1 ≤ k.toNat) (hhigh : k.toNat ≤ 9) : op ≠ k := by
    rintro rfl
    omega
  have h1 := ne 0x01 (by decide) (by decide)
  have h3 := ne 0x03 (by decide) (by decide)
  have h6 := ne 0x06 (by decide) (by decide)
  exact ⟨iff_of_false (by decide) fun hshort => h1 hshort.1,
    iff_of_false (by decide) (not_or.2 ⟨fun hsize => h3 hsize.1, fun htype => h6 htype.1⟩), iff_of_true rfl h⟩

/-- Every command completes with the status that its conditions give (R87 to R89). -/
theorem exec_fitsConditions (i : Instr) (s : State) :
    ∃ t o, exec i s = .next t ∧ t.outstanding = some o ∧
      o.response.status.fitsConditions i.mnemonic.opcode i.arg s.source.avail := by
  cases i with
  | hdrRead arg =>
    simp only [exec, execHdrRead_eq]
    split <;> exact ⟨_, _, rfl, rfl, by simp [fitsConditions_opcode_iff, Instr.mnemonic, *]⟩
  | setPayloadSize n =>
    simp only [exec, execSetPayloadSize_eq]
    split <;> exact ⟨_, _, rfl, rfl, by simp [fitsConditions_opcode_iff, Instr.mnemonic, Instr.arg, *]⟩
  | setMsgType v =>
    simp only [exec, execSetMsgType_eq]
    split <;> exact ⟨_, _, rfl, rfl, by simp [fitsConditions_opcode_iff, Instr.mnemonic, Instr.arg, *]⟩
  | hdrWrite arg | getPayloadSize arg | getFrameSize arg | getMsgType arg | setId v | getId arg =>
    exact ⟨_, _, rfl, rfl, by simp [fitsConditions_opcode_iff, Instr.mnemonic]⟩

/-- The opcodes without a command are 0x00 and 0x0A to 0xFF (`30_encoding.md` R50). -/
theorem reserved_of_ofOpcode_eq_none {op : Byte} (h : Mnemonic.ofOpcode op = none) :
    op.toNat = 0 ∨ 10 ≤ op.toNat := by
  by_contra hmap
  obtain ⟨m, hm⟩ := Mnemonic.exists_ofOpcode (op := op) (by omega) (by omega)
  simp [h] at hm

/-- An accepted word that does not answer OK raises its status, and that is all it does (`60_exceptions.md` R86). -/
theorem acceptWord_failed {w : CmdWord} {s t : State} {o : Outstanding} (h : acceptWord w s = .next t)
    (ho : t.outstanding = some o) (hfail : o.response.status ≠ .ok) :
    ∃ e, t = s.raise (opOf w) e ∧ o.response = failResponse e := by
  obtain ⟨i, hop, -, hi⟩ | ⟨-, hraise⟩ := acceptWord_cases w
  · replace h := (hi s).symm.trans h
    obtain ⟨e, -, he⟩ | ⟨a, b, c, v, he⟩ | ⟨-, he⟩ := exec_cases i s
    · cases he.symm.trans h
      cases ho
      exact ⟨e, by rw [hop], rfl⟩
    · cases he.symm.trans h
      cases ho
      exact absurd rfl hfail
    · cases he.symm.trans h
      cases ho
      exact absurd rfl hfail
  · cases (hraise s).symm.trans h
    cases ho
    exact ⟨_, rfl, rfl⟩

/-- A command performed whole: its accepted word leaves a response, which is taken out, and the host's events are
put back (`70_reset_and_hazards.md` R117). -/
theorem runCommand_eq_some_iff {c : Command} {s t : State} {r : Response} :
    runCommand c s = some (t, r) ↔
      ∃ u o, acceptWord c.word { s with host := [.clock (commandPins c) true] } = .next u ∧
        u.outstanding = some o ∧ t = { u with host := s.host, outstanding := none } ∧ r = o.response := by
  obtain ⟨u, r', hu, hanswers⟩ := acceptWord_answers c.word { s with host := [.clock (commandPins c) true] }
  unfold State.answers at hanswers
  simp [runCommand, hu, hanswers, eq_comm]

/-- Every command performed whole has its response (`60_exceptions.md` R85). -/
theorem runCommand_answers (c : Command) (s : State) : ∃ t r, runCommand c s = some (t, r) := by
  obtain ⟨u, r, hu, hanswers⟩ := acceptWord_answers c.word { s with host := [.clock (commandPins c) true] }
  exact ⟨_, _, runCommand_eq_some_iff.2 ⟨u, _, hu, hanswers, rfl, rfl⟩⟩

/-- Every run of commands ends, with one response for each (R85, R117). -/
theorem runCommands_answers (cs : List Command) (s : State) :
    ∃ t rs, runCommands cs s = some (t, rs) ∧ rs.length = cs.length := by
  induction cs generalizing s with
  | nil => exact ⟨s, [], rfl, rfl⟩
  | cons c cs ih =>
    obtain ⟨t, r, hfirst⟩ := runCommand_answers c s
    obtain ⟨u, rs, hrest, hlength⟩ := ih t
    exact ⟨u, r :: rs, runCommands_cons_of hfirst hrest, congrArg Nat.succ hlength⟩

/-- From an idle state a failing command, performed whole, gives back that state (R86, R94). -/
theorem runCommand_failed {c : Command} {s t : State} {r : Response} (hidle : s.outstanding = none)
    (h : runCommand c s = some (t, r)) (hfail : r.status ≠ .ok) : t = s := by
  obtain ⟨u, o, hu, ho, rfl, rfl⟩ := runCommand_eq_some_iff.1 h
  obtain ⟨e, rfl, -⟩ := acceptWord_failed hu ho hfail
  rw [State.raise, State.complete, ← hidle]

/-- A run whose first command is answered is the run from there with that response in front (R117). -/
theorem runCommands_cons {c : Command} {s t : State} {r : Response} (cs : List Command)
    (h : runCommand c s = some (t, r)) :
    runCommands (c :: cs) s = (runCommands cs t).map fun p => (p.1, r :: p.2) := by
  simp only [runCommands, h]
  cases runCommands cs t <;> rfl

end Sys2Proof.Machine
end

section
/-! SUPPORT. Power-up, and what a step does to the response on its way: the free values before the first reset, the
events of a unit that was reset, and one step of one unit of a system. -/

namespace Sys2Proof.Machine

/-- Each code is the code of its status (`30_encoding.md` R48). -/
@[simp] theorem Status.code_ofCode (c : BitVec 2) : (Status.ofCode c).code = c := by
  revert c
  decide

/-- The registers and the busy state are drawn afresh (`70_reset_and_hazards.md` R106). -/
theorem scramble_freeIn (s : State) : s.freeIn s.scramble := by
  refine ⟨rfl, rfl, rfl, ?_⟩
  cases h : Config.freeBusy s.draws <;> simp [h]

/-- At an edge with `rst` = 1 before the first reset, everything is drawn afresh unless a reset takes effect
(R103, R106). -/
theorem resetEdge_unreset {s : State} (hunreset : s.unreset = true) :
    s.resetEdge.isReset ∨ s.resetEdge = s.scramble := by
  obtain ⟨-, he⟩ | ⟨-, -, he⟩ | ⟨-, hun, -⟩ := resetEdge_cases s
  · exact .inl (by rw [he]; exact ⟨rfl, rfl, rfl, rfl, rfl⟩)
  · exact .inr he
  · simp [hunreset] at hun

/-- Before the first reset, with `rst` = 0, every output is a free value (R106). -/
theorem outputs_unreset {s : State} (hunreset : s.unreset = true) (hrst : s.pins.rst = false) :
    s.outputs = { cmdReady := Config.freeReady s.draws, rspValid := Config.freeValid s.draws,
                  rspStatus := Config.freeStatus s.draws, rspResult := Config.freeResult s.draws,
                  snkBytes := Config.freeSnk s.draws } := by
  have hready : s.cmdReady = Config.freeReady s.draws := by simp [State.cmdReady, hrst, hunreset]
  cases hvalid : Config.freeValid s.draws with
  | false =>
    have hnone : s.presented = none := by simp [State.presented, hrst, hunreset, hvalid]
    simp [State.outputs, hready, hnone]
  | true =>
    have hsome : s.presented = some (freeResponse s.draws) := by
      simp [State.presented, hrst, hunreset, hvalid]
    simp [State.outputs, hready, hsome, freeResponse, packWindow_unpackWindow]

/-- An event that has a next state and is no loss of power is a clock edge, at which the host misses no response
(`20_memory.md` R42). -/
theorem missesResponse_of_hostStep {s t : State} (hpowered : s.powered) (h : hostStep s = .next t) :
    s.missesResponse = false := by
  unfold hostStep at h
  split at h
  · exact absurd ‹_› (hpowered _)
  · cases h
  · exact ((clockEdge_answers_iff s).1 ⟨t, h⟩).2

/-- The events of a unit that was reset, while the power stays: with `rst` = 1 a reset takes effect or the response
is held; with `rst` = 0 a word is accepted or time passes (`70_reset_and_hazards.md` R103, R109, R111). -/
theorem hostStep_next_cases_of_powered {s u : State} (hunreset : s.unreset = false) (hpowered : s.powered)
    (h : hostStep s = .next u) :
    (s.pins.rst = true ∧ u.isReset) ∨ (s.pins.rst = true ∧ u = s.elapseHeld) ∨
      (s.pins.rst = false ∧ ∃ w, s.accepts w ∧ acceptWord w s = .next u) ∨
      (s.pins.rst = false ∧ u = s.elapse) := by
  obtain ⟨-, rest, hhost⟩ | ⟨hrst, rfl⟩ | ⟨-, hun, -⟩ | ⟨hrst, -, hbusy, hvalid, hmiss, hacc⟩ | ⟨hrst, -, -, rfl⟩ :=
    hostStep_next_cases h
  · exact absurd hhost (hpowered rest)
  · obtain ⟨-, he⟩ | ⟨-, hun, -⟩ | ⟨-, -, he⟩ := resetEdge_cases s
    · exact .inl ⟨hrst, by rw [he]; exact ⟨rfl, rfl, rfl, rfl, rfl⟩⟩
    · simp [hunreset] at hun
    · exact .inr (.inl ⟨hrst, he⟩)
  · simp [hunreset] at hun
  · exact .inr (.inr (.inl ⟨hrst, _, ⟨State.ready_iff.2 ⟨hrst, hunreset, hbusy⟩, hvalid, hmiss, rfl⟩, hacc⟩))
  · exact .inr (.inr (.inr ⟨hrst, rfl⟩))

/-- With a response outstanding the FHC is not busy just when no edge is left (R110). -/
theorem busy_eq_false_iff_left {s : State} {o : Outstanding} (ho : s.outstanding = some o) :
    s.busy = false ↔ o.left = 0 := by
  simp [State.busy, ho]

/-- A response that is due at an edge with `rst` = 0 at which no duty is broken is presented and sampled (R111). -/
theorem presented_sampled_of_left_zero {s : State} {o : Outstanding} (hrst : s.pins.rst = false)
    (hunreset : s.unreset = false) (ho : s.outstanding = some o) (hleft : o.left = 0)
    (hmiss : s.missesResponse = false) : s.presented = some o.response ∧ s.sampled = true := by
  have hdue : s.dueResponse = some o.response := by simp [State.dueResponse, ho, hleft]
  exact ⟨(port_signals hrst hunreset).2.trans hdue,
    by simpa [missesResponse_of_due hrst hunreset hdue] using hmiss⟩

/-- A response that is not yet due is not presented (R111). -/
theorem presented_none_of_left_ne_zero {s : State} {o : Outstanding} (hrst : s.pins.rst = false)
    (hunreset : s.unreset = false) (ho : s.outstanding = some o) (hleft : o.left ≠ 0) : s.presented = none := by
  rw [(port_signals hrst hunreset).2]
  simp [State.dueResponse, ho, hleft]

/-- After the cycle in which it was due a response is outstanding no more (R111). -/
theorem Outstanding.tick_of_left_zero {o : Outstanding} (h : o.left = 0) : o.tick = none := by
  simp [Outstanding.tick, h]

/-- A response that is not yet due comes one edge nearer, as at an edge that holds it (R111). -/
theorem Outstanding.tick_of_left_ne_zero {o : Outstanding} (h : o.left ≠ 0) : o.tick = some o.hold := by
  obtain ⟨_ | left, r⟩ := o
  · exact absurd rfl h
  · rfl

/-- A step of a system that has a next state is a step of one unit, put back in its place (`60_exceptions.md`
R100). -/
theorem System.stepAt_eq_next_iff {y y' : System} {k : Nat} :
    y.stepAt k = some (.next y') ↔
      ∃ s t, y.units[k]? = some s ∧ step s = .next t ∧ y' = { units := y.units.set k t } := by
  cases hunit : y.units[k]? with
  | none => simp [System.stepAt, hunit]
  | some s => cases hstep : step s <;> simp [System.stepAt, hunit, hstep, eq_comm]

end Sys2Proof.Machine
end

section
/-! CERTIFICATE. The statements on failure, power, runs and systems of `60_exceptions.md`. -/

namespace Sys2Proof.Proofs

open Sys2Proof.Machine

/-- Settles O25: a word is a command, whose status its conditions give, or reserved. -/
theorem failuresAreExactlyTheListed : Obligations.FailuresAreExactlyTheListed := by
  intro w s
  cases hm : Mnemonic.ofOpcode (opOf w) with
  | none =>
    exact ⟨_, _, acceptWord_of_reserved hm s, rfl, fitsConditions_reserved (reserved_of_ofOpcode_eq_none hm) _ _⟩
  | some m =>
    have hop := Mnemonic.opcode_of_ofOpcode hm
    have hexec := exec_fitsConditions (m.withArg (argOf w)) s
    rwa [← acceptWord_of_opcode hop, Mnemonic.mnemonic_withArg, Mnemonic.arg_withArg, hop] at hexec

/-- Settles O26: a word that does not answer OK is `raise`, which touches the response alone. -/
theorem failedCommandChangesNothing : Obligations.FailedCommandChangesNothing := by
  intro w s t o h ho hfail
  obtain ⟨e, rfl, hresponse⟩ := acceptWord_failed h ho hfail
  rw [hresponse]
  exact ⟨⟨rfl, rfl, rfl⟩, ⟨rfl, rfl, rfl, rfl⟩, rfl, rfl⟩

/-- Settles O31: the observation is read off the run, which always ends. -/
theorem everyRunHasItsObservation : Obligations.EveryRunHasItsObservation := by
  intro cs s
  obtain ⟨t, rs, hrun, hlength⟩ := runCommands_answers cs s
  exact ⟨_, by rw [observe, hrun], hlength⟩

/-- Settles O39: the rest of the run starts from the state that the failed command was issued in. -/
theorem failedCommandLeavesNoTrace : Obligations.FailedCommandLeavesNoTrace := by
  intro c cs s t r hidle hfirst hfail
  obtain rfl := runCommand_failed hidle hfirst hfail
  exact runCommands_cons cs hfirst

/-- Settles O50: every event before the first reset draws the registers and the busy state afresh, but for a reset
that takes effect. -/
theorem onlyResetEndsThePowerUpState : Obligations.OnlyResetEndsThePowerUpState := by
  refine ⟨fun s rest hhost => ?_, fun s t hunreset hstep => ?_, fun s => outputs_unreset⟩
  · exact ⟨_, step_eq_next_iff.2 ⟨s.powerUp, by simp only [hostStep, hhost], rfl⟩, rfl, scramble_freeIn s⟩
  · obtain ⟨u, hu, rfl⟩ := step_eq_next_iff.1 hstep
    obtain ⟨rfl, -⟩ | ⟨hrst, rfl⟩ | ⟨-, -, rfl⟩ | ⟨-, hun, -⟩ | ⟨-, hun, -⟩ := hostStep_next_cases hu
    · exact .inl ⟨rfl, scramble_freeIn s⟩
    · obtain hreset | hscramble := resetEdge_unreset hunreset
      · obtain ⟨hsize, hmtype, hid, hidle, hun⟩ := hreset
        exact .inr ⟨hun, hrst, hsize, hmtype, hid, hidle, hun⟩
      · rw [hscramble]
        exact .inl ⟨hunreset, scramble_freeIn s⟩
    · exact .inl ⟨hunreset, scramble_freeIn s⟩
    · simp [hunreset] at hun
    · simp [hunreset] at hun

/-- Settles O55: a step of the system puts one unit's next state in that unit's place. -/
theorem unitsShareNothing : Obligations.UnitsShareNothing := by
  intro y y' k h
  obtain ⟨s, t, hunit, hstep, rfl⟩ := System.stepAt_eq_next_iff.1 h
  obtain ⟨hk, -⟩ := List.getElem?_eq_some_iff.1 hunit
  exact ⟨⟨s, t, hunit, hstep, List.getElem?_set_self hk⟩, fun j hj => List.getElem?_set_ne hj.symm⟩

/-- Settles O56: with `rst` = 1 the response is dropped by a reset or held; with `rst` = 0 it is presented if it is
due, which it is where a word is accepted, and otherwise comes one edge nearer. -/
theorem everyResponseIsPresentedOnce : Obligations.EveryResponseIsPresentedOnce := by
  intro s t o hunreset hpowered ho hstep
  obtain ⟨u, hu, rfl⟩ := step_eq_next_iff.1 hstep
  have hmiss := missesResponse_of_hostStep hpowered hu
  obtain hreset | ⟨hrst, rfl⟩ | ⟨hrst, w, haccepts, hacc⟩ | ⟨hrst, rfl⟩ :=
    hostStep_next_cases_of_powered hunreset hpowered hu
  · exact .inl hreset
  · exact .inr (.inr ⟨.inl hrst, (port_signals_of_rst hrst).2, by simp [ho, Outstanding.hold]⟩)
  · obtain ⟨-, -, hbusy⟩ := State.ready_iff.1 haccepts.1
    have hleft := (busy_eq_false_iff_left ho).1 hbusy
    obtain ⟨hpresented, hsampled⟩ := presented_sampled_of_left_zero hrst hunreset ho hleft hmiss
    obtain ⟨u', r, hu', hanswers⟩ := acceptWord_answers w s
    cases hu'.symm.trans hacc
    exact .inr (.inl ⟨hrst, hleft, hpresented, hsampled, .inr ⟨w, r, haccepts, hanswers⟩⟩)
  · by_cases hleft : o.left = 0
    · obtain ⟨hpresented, hsampled⟩ := presented_sampled_of_left_zero hrst hunreset ho hleft hmiss
      exact .inr (.inl ⟨hrst, hleft, hpresented, hsampled, .inl (by simp [ho, Outstanding.tick_of_left_zero hleft])⟩)
    · exact .inr (.inr ⟨.inr hleft, presented_none_of_left_ne_zero hrst hunreset ho hleft,
        by simp [ho, Outstanding.tick_of_left_ne_zero hleft, Outstanding.hold]⟩)

/-- Settles O11: the accepted word is run, and a reserved opcode only raises ERR_ILLEGAL. -/
theorem reservedOpcodeIsAnsweredIllegal : Obligations.ReservedOpcodeIsAnsweredIllegal := by
  intro s w haccepts hreserved
  refine ⟨(s.raise (opOf w) .errIllegal).advance, ?_, ⟨rfl, rfl, rfl⟩, rfl⟩
  rw [step_of_accepts haccepts, acceptWord_of_reserved (Mnemonic.ofOpcode_eq_none hreserved)]
  rfl

end Sys2Proof.Proofs
end

section
/-! SUPPORT. Trust and the registers: what a command makes equal in two runs, whatever the registers held before. -/

namespace Sys2Proof.Machine

/-- The two states hold the same in every register that the host trusts (`70_reset_and_hazards.md` R113, R115). -/
def Trust.agrees (k : Trust) (s t : State) : Prop :=
  (k.size = true → t.size = s.size) ∧ (k.mtype = true → t.mtype = s.mtype) ∧ (k.id = true → t.id = s.id)

/-- A host that trusts nothing asks nothing of the registers. -/
theorem Trust.none_agrees (s t : State) : Trust.none.agrees s t := ⟨nofun, nofun, nofun⟩

/-- With every field trusted, the registers are the same (R115). -/
theorem Trust.sameRegisters_of_whole {k : Trust} {s t : State} (hagrees : k.agrees s t) (hwhole : k.whole = true) :
    s.sameRegisters t := by
  obtain ⟨hsize, hmtype, hid⟩ := hagrees
  simp only [Trust.whole, Bool.and_eq_true, and_assoc] at hwhole
  obtain ⟨ksize, kmtype, kid⟩ := hwhole
  exact ⟨hsize ksize, hmtype kmtype, hid kid⟩

/-- A reserved opcode neither earns nor loses trust (R115). -/
theorem Trust.after_of_reserved {w : CmdWord} {e : DecodeError} (h : decode w = .error e) (k : Trust) (st : Status) :
    k.after w st = k := by
  simp only [Trust.after, h]

/-- The same command beside the same source window answers two states with one status, and leaves them equal in every
register that is then trusted: a setter and HDR_READ write values that come from the operands alone (R113 to R115). -/
theorem exec_agrees {w : CmdWord} {i : Instr} (hdecode : decode w = .ok i) {k : Trust} {s s' : State}
    (hagrees : k.agrees s s') (hsource : s'.source = s.source) :
    ∃ t t' o o', exec i s = .next t ∧ exec i s' = .next t' ∧ t.outstanding = some o ∧ t'.outstanding = some o' ∧
      o'.response.status = o.response.status ∧ (k.after w o.response.status).agrees t t' := by
  obtain ⟨hsize, hmtype, hid⟩ := hagrees
  cases i with
  | hdrRead arg =>
    simp only [exec, execHdrRead_eq, hsource, Trust.after, hdecode]
    split
    · exact ⟨_, _, _, _, rfl, rfl, rfl, rfl, rfl, Trust.none_agrees _ _⟩
    · exact ⟨_, _, _, _, rfl, rfl, rfl, rfl, rfl, fun _ => rfl, fun _ => rfl, fun _ => rfl⟩
  | setPayloadSize n =>
    simp only [exec, execSetPayloadSize_eq, Trust.after, hdecode]
    split
    · exact ⟨_, _, _, _, rfl, rfl, rfl, rfl, rfl, nofun, hmtype, hid⟩
    · exact ⟨_, _, _, _, rfl, rfl, rfl, rfl, rfl, fun _ => rfl, hmtype, hid⟩
  | setMsgType v =>
    simp only [exec, execSetMsgType_eq, Trust.after, hdecode]
    split
    · exact ⟨_, _, _, _, rfl, rfl, rfl, rfl, rfl, hsize, nofun, hid⟩
    · exact ⟨_, _, _, _, rfl, rfl, rfl, rfl, rfl, hsize, fun _ => rfl, hid⟩
  | setId v =>
    simp only [Trust.after, hdecode]
    exact ⟨_, _, _, _, rfl, rfl, rfl, rfl, rfl, hsize, hmtype, fun _ => rfl⟩
  | hdrWrite arg | getPayloadSize arg | getFrameSize arg | getMsgType arg | getId arg =>
    simp only [Trust.after, hdecode]
    exact ⟨_, _, _, _, rfl, rfl, rfl, rfl, rfl, hsize, hmtype, hid⟩

/-- The same for every accepted word, a reserved one included. -/
theorem acceptWord_agrees (w : CmdWord) {k : Trust} {s s' : State} (hagrees : k.agrees s s')
    (hsource : s'.source = s.source) :
    ∃ t t' o o', acceptWord w s = .next t ∧ acceptWord w s' = .next t' ∧ t.outstanding = some o ∧
      t'.outstanding = some o' ∧ o'.response.status = o.response.status ∧
      (k.after w o.response.status).agrees t t' := by
  obtain ⟨i, -, hdecode, hi⟩ | ⟨hdecode, hraise⟩ := acceptWord_cases w
  · rw [hi, hi]
    exact exec_agrees hdecode hagrees hsource
  · exact ⟨_, _, _, _, hraise s, hraise s', rfl, rfl, rfl, by rwa [Trust.after_of_reserved hdecode]⟩

/-- The same for a command performed whole (R117). -/
theorem runCommand_agrees {c : Command} {k : Trust} {s s' t t' : State} {r r' : Response} (hagrees : k.agrees s s')
    (h : runCommand c s = some (t, r)) (h' : runCommand c s' = some (t', r')) :
    r'.status = r.status ∧ (k.after c.word r.status).agrees t t' := by
  obtain ⟨u, o, hu, ho, rfl, rfl⟩ := runCommand_eq_some_iff.1 h
  obtain ⟨u', o', hu', ho', rfl, rfl⟩ := runCommand_eq_some_iff.1 h'
  obtain ⟨v, v', p, p', hv, hv', hp, hp', hstatus, hagrees'⟩ := acceptWord_agrees c.word
    (s := { s with host := [.clock (commandPins c) true] }) (s' := { s' with host := [.clock (commandPins c) true] })
    hagrees rfl
  cases hu.symm.trans hv
  cases hu'.symm.trans hv'
  cases ho.symm.trans hp
  cases ho'.symm.trans hp'
  exact ⟨hstatus, hagrees'⟩

/-- A run of a first command and more is that command and the run from there (R117). -/
theorem runCommands_cons_eq_some_iff {c : Command} {cs : List Command} {s u : State} {rs : List Response} :
    runCommands (c :: cs) s = some (u, rs) ↔
      ∃ t r rs', runCommand c s = some (t, r) ∧ runCommands cs t = some (u, rs') ∧ rs = r :: rs' := by
  obtain ⟨t, r, hfirst⟩ := runCommand_answers c s
  simp only [runCommands_cons cs hfirst, hfirst]
  cases hrest : runCommands cs t <;> simp [hrest, Prod.ext_iff, eq_comm, and_comm]

/-- Two runs of one list of commands earn the same trust, and end equal in every register that is trusted then
(R113 to R115). -/
theorem runCommands_agrees (cs : List Command) {k : Trust} {s s' t t' : State} {rs rs' : List Response}
    (hagrees : k.agrees s s') (h : runCommands cs s = some (t, rs)) (h' : runCommands cs s' = some (t', rs')) :
    k.afterRun cs rs' = k.afterRun cs rs ∧ (k.afterRun cs rs).agrees t t' := by
  induction cs generalizing k s s' rs rs' with
  | nil =>
    cases h
    cases h'
    exact ⟨rfl, hagrees⟩
  | cons c cs ih =>
    obtain ⟨u, r, ps, hfirst, hrest, rfl⟩ := runCommands_cons_eq_some_iff.1 h
    obtain ⟨u', r', ps', hfirst', hrest', rfl⟩ := runCommands_cons_eq_some_iff.1 h'
    obtain ⟨hstatus, hagrees'⟩ := runCommand_agrees hagrees hfirst hfirst'
    simp only [Trust.afterRun, hstatus]
    exact ih hagrees' hrest hrest'

end Sys2Proof.Machine
end

section
/-! SUPPORT. Edges at which no command is presented: what such an edge does, a pulse of edges with `rst` = 1, and the
idle edges of a busy FHC. -/

namespace Sys2Proof.Machine

/-- What an edge without a command does: a reset edge, a free draw before the first reset, or time passes
(`70_reset_and_hazards.md` R103, R106, R111). -/
def State.quietEdge (s : State) : State :=
  if s.pins.rst then s.resetEdge else if s.unreset then s.unresetEdge else s.elapse

/-- The step at an edge without a command: the host can break no duty but to miss a response (`20_memory.md` R42). -/
theorem step_of_no_command {s : State} {p : Pins} {b : Bool} {rest : List HostEvent}
    (hhost : s.host = .clock p b :: rest) (hvalid : p.cmdValid = false) :
    step s = if s.missesResponse then .refused .missedResponse else .next s.quietEdge.advance := by
  have hpins : s.pins = p := by simp [State.pins, hhost]
  have hpresents : s.presentsUnready = false := by simp [State.presentsUnready, hpins, hvalid]
  have hedge : hostStep s = clockEdge s := by simp [hostStep, hhost]
  rw [step, hedge]
  unfold clockEdge State.quietEdge
  simp only [hpresents, hpins, hvalid, Bool.false_eq_true, if_false]
  split
  · rfl
  · split
    · rfl
    · split <;> rfl

/-- A host that drives `rst` = 1 is at a clock edge: at any other event the ports are idle. -/
theorem host_of_rst {s : State} (hrst : s.pins.rst = true) : ∃ b rest, s.host = .clock s.pins b :: rest := by
  unfold State.pins at hrst ⊢
  split at hrst
  · rename_i p b rest hhost
    exact ⟨b, rest, by simp only [hhost]⟩
  · cases hrst

/-- At an edge with `rst` = 1 and no command the event is the reset edge, and nothing is presented (R103, R104). -/
theorem step_rst {s : State} (hrst : s.pins.rst = true) (hvalid : s.pins.cmdValid = false) :
    step s = .next s.resetEdge.advance ∧ s.presented = none := by
  obtain ⟨b, rest, hhost⟩ := host_of_rst hrst
  have hpresented := (port_signals_of_rst hrst).2
  refine ⟨?_, hpresented⟩
  rw [step_of_no_command hhost hvalid]
  simp [State.missesResponse, hpresented, State.quietEdge, hrst]

/-- A reset edge leaves the count of reset edges and the host's events to the step's bookkeeping. -/
theorem resetEdge_rstCount_host (s : State) : s.resetEdge.rstCount = s.rstCount ∧ s.resetEdge.host = s.host := by
  obtain ⟨-, he⟩ | ⟨-, -, he⟩ | ⟨-, -, he⟩ := resetEdge_cases s <;> rw [he] <;> exact ⟨rfl, rfl⟩

/-- The edge is counted, and the host goes on (R103). -/
theorem resetEdge_advance_rstCount_host {s : State} (hrst : s.pins.rst = true) :
    s.resetEdge.advance.rstCount = s.rstCount + 1 ∧ s.resetEdge.advance.host = s.host.tail := by
  obtain ⟨hcount, hhost⟩ := resetEdge_rstCount_host s
  simp [State.pins_of_host hhost, hrst, hcount, hhost]

/-- From the RESET_MIN_CYCLES-th consecutive edge on the reset takes effect (R103, R104). -/
theorem resetEdge_isReset {s : State} (hcount : Config.resetMinCycles ≤ s.rstCount + 1) : s.resetEdge.isReset := by
  have htakes : s.resetTakes = true := by simp [State.resetTakes, hcount]
  rw [State.resetEdge, if_pos htakes]
  exact ⟨rfl, rfl, rfl, rfl, rfl⟩

/-- The host's bookkeeping touches nothing that a reset sets. -/
theorem advance_isReset {s : State} (h : s.isReset) : s.advance.isReset := h

/-- What stands at the ports at an edge of a reset pulse. -/
theorem pins_rstEdge {s : State} {rest : List HostEvent} (hhost : s.host = rstEdge :: rest) :
    s.pins.rst = true ∧ s.pins.cmdValid = false := by
  simp [State.pins, hhost, rstEdge, idlePins]

/-- A pulse of `n` edges presents no response and is counted, whatever the state that it begins in (R103, R104). -/
theorem runEdges_rst (n : Nat) {s : State} {rest : List HostEvent}
    (hhost : s.host = List.replicate n rstEdge ++ rest) :
    ∃ t, runEdges n s = some (t, []) ∧ t.rstCount = s.rstCount + n ∧ t.host = rest := by
  induction n generalizing s with
  | zero => exact ⟨s, rfl, rfl, hhost⟩
  | succ n ih =>
    obtain ⟨hrst, hvalid⟩ := pins_rstEdge (s := s) hhost
    obtain ⟨hstep, hpresented⟩ := step_rst hrst hvalid
    obtain ⟨hcount, htail⟩ := resetEdge_advance_rstCount_host hrst
    obtain ⟨t, hrun, htcount, hrest⟩ := ih (htail.trans (congrArg List.tail hhost))
    refine ⟨t, runEdges_succ_iff.2 ⟨_, [], hstep, hrun, by simp [hpresented]⟩, ?_, hrest⟩
    rw [htcount, hcount]
    omega

/-- Of what the host drives an edge without a command reads `rst` alone (R109). -/
theorem quietEdge_host {s : State} {h : List HostEvent} (hrst : ({ s with host := h } : State).pins.rst = s.pins.rst) :
    ({ s with host := h } : State).quietEdge = { s.quietEdge with host := h } := by
  have htakes : ({ s with host := h } : State).resetTakes = s.resetTakes := rfl
  simp only [State.quietEdge, State.resetEdge, hrst, htakes]
  split
  · split
    · rfl
    · split <;> rfl
  · split <;> rfl

/-- With the same `rst` and the same events to come, an edge without a command ends in the same state (R109). -/
theorem quietEdge_advance_of_rst {s : State} {p q : Pins} {b b' : Bool} {rest : List HostEvent}
    (hhost : s.host = .clock p b :: rest) (hrst : q.rst = p.rst) :
    ({ s with host := .clock q b' :: rest } : State).quietEdge.advance = s.quietEdge.advance := by
  have hpins : s.pins = p := by simp [State.pins, hhost]
  have hkept : s.quietEdge.host = .clock p b :: rest :=
    (congrArg State.host (quietEdge_host (h := s.host) rfl)).trans hhost
  rw [quietEdge_host (by rw [hpins]; exact hrst)]
  simp [State.advance, State.pins, hkept, hrst]

/-- Whether the host misses a response depends on `rst` alone of the input signals (R104, R109). -/
theorem missesResponse_pins (s : State) {p q : Pins} (b : Bool) (rest : List HostEvent) (hrst : q.rst = p.rst) :
    ({ s with host := .clock p b :: rest } : State).missesResponse =
      ({ s with host := .clock q b :: rest } : State).missesResponse := by
  simp [State.missesResponse, State.presented, State.sampled, State.pins, State.dueResponse, hrst]

/-- Idle edges before the response is due: nothing is presented, the registers stand, and the response comes nearer by
their number (R110, R111). -/
theorem runEdges_idle_before_due (k : Nat) {s : State} {o : Outstanding} {rest : List HostEvent}
    (hunreset : s.unreset = false) (hhost : s.host = List.replicate k idleEdge ++ rest)
    (ho : s.outstanding = some o) (hk : k ≤ o.left) :
    ∃ t, runEdges k s = some (t, []) ∧ t.outstanding = some { left := o.left - k, response := o.response } ∧
      s.sameRegisters t ∧ t.host = rest := by
  induction k generalizing s o with
  | zero => exact ⟨s, rfl, ho, ⟨rfl, rfl, rfl⟩, hhost⟩
  | succ k ih =>
    have hleft : o.left ≠ 0 := by omega
    have hcons : s.host = idleEdge :: (List.replicate k idleEdge ++ rest) := hhost
    obtain ⟨hstep, hpresented⟩ := step_idleEdge hunreset hcons
    have hnone : s.dueResponse = none := by simp [State.dueResponse, ho, hleft]
    obtain ⟨t, hrun, hout, hregs, hrest⟩ := ih (s := s.elapse.advance) (o := o.hold) hunreset (by simp [hcons])
      (by simp [ho, Outstanding.tick_of_left_ne_zero hleft]) (by rw [Outstanding.hold_left]; omega)
    refine ⟨t, runEdges_succ_iff.2 ⟨_, [], hstep, hrun, by simp [hpresented, hnone]⟩, ?_, hregs, hrest⟩
    rw [hout, Outstanding.hold_left, Outstanding.hold_response, Nat.sub_sub, Nat.add_comm 1 k]

/-- An FHC that is not busy has nothing to wait for (R110). -/
theorem dueWithin_zero_of_not_busy {s : State} (hbusy : s.busy = false) : s.dueWithin 0 := by
  intro o ho
  exact ((busy_eq_false_iff_left ho).1 hbusy).le

end Sys2Proof.Machine
end

section
/-! CERTIFICATE. The statements on reset and hazards of `70_reset_and_hazards.md`. -/

namespace Sys2Proof.Proofs

open Sys2Proof.Machine

/-- Settles O40: the registers that the host trusts agree in the two runs, which earn the same trust. -/
theorem trustedHeaderForgetsThePast : Obligations.TrustedHeaderForgetsThePast := by
  intro cs s s' t t' rs rs' hrun hrun' hwhole
  obtain ⟨htrust, hagrees⟩ := runCommands_agrees cs (Trust.none_agrees s s') hrun hrun'
  exact ⟨Trust.sameRegisters_of_whole hagrees hwhole, by rwa [htrust]⟩

/-- Settles O46: the edges before the last only count, and the last is the RESET_MIN_CYCLES-th or a later one. -/
theorem longResetPulseResetsFromAnyState : Obligations.LongResetPulseResetsFromAnyState := by
  intro n s rest hn hhost
  obtain ⟨m, rfl⟩ : ∃ m, n = m + 1 := Nat.exists_eq_add_of_le' (Nat.le_trans (Nat.le_add_left 1 _) hn)
  have hsplit : s.host = List.replicate m rstEdge ++ (rstEdge :: rest) := by
    rw [hhost, List.replicate_succ', List.append_assoc, List.singleton_append]
  obtain ⟨t, hrun, hcount, hlast⟩ := runEdges_rst m hsplit
  obtain ⟨hrst, hvalid⟩ := pins_rstEdge hlast
  obtain ⟨hstep, hpresented⟩ := step_rst hrst hvalid
  obtain ⟨-, htail⟩ := resetEdge_advance_rstCount_host hrst
  refine ⟨t.resetEdge.advance, ?_, advance_isReset (resetEdge_isReset (by omega)), by rw [htail, hlast]; rfl⟩
  exact runEdges_add hrun (runEdges_succ_iff.2 ⟨_, [], hstep, rfl, by simp [hpresented]⟩)

/-- Settles O47: the edge is the reset edge, which resets, or holds the response and keeps the registers. -/
theorem resetEdgeResetsOrKeeps : Obligations.ResetEdgeResetsOrKeeps := by
  intro s hrst hvalid hunreset
  refine ⟨s.resetEdge.advance, (step_rst hrst hvalid).1, (resetEdge_advance_rstCount_host hrst).1, ?_,
    fun hcount => advance_isReset (resetEdge_isReset hcount)⟩
  obtain ⟨-, he⟩ | ⟨-, hun, -⟩ | ⟨-, -, he⟩ := resetEdge_cases s
  · rw [he]
    exact .inl ⟨rfl, rfl, rfl, rfl, rfl⟩
  · simp [hunreset] at hun
  · rw [he]
    exact .inr ⟨⟨rfl, rfl, rfl⟩, fun hidle => by simp [hidle], fun o ho => by simp [ho, Outstanding.hold]⟩

/-- Settles O51: the accepting edge leaves the response CMD_LATENCY less 1 edges away, and each idle edge brings it one
nearer. -/
theorem busyUntilTheResponse : Obligations.BusyUntilTheResponse := by
  intro s u c k rest hunreset hbusy hhost hk hacc
  obtain ⟨u', r, hu', hanswers⟩ := acceptWord_answers c.word s
  cases hacc.symm.trans hu'
  obtain ⟨-, hun, htail, -⟩ := acceptWord_sameRest hacc
  have haccepts := accepts_commandPins hunreset (dueWithin_zero_of_not_busy hbusy) hhost
  have hstep : step s = .next u.advance := by rw [step_of_accepts haccepts, hacc, thenAdvance]
  obtain ⟨t, hrun, hout, hregs, hrest⟩ := runEdges_idle_before_due (s := u.advance) (rest := rest) k
    (hun.trans hunreset) (by simp [htail, hhost]) hanswers hk
  refine ⟨t, r, hanswers, runEdges_succ_iff.2 ⟨_, [], hstep, hrun, by simp⟩, hout, hregs, ?_, hrest⟩
  simp only [State.busy, hout, Config.cmdLatency, decide_eq_true_eq]
  omega

/-- Settles O52: an edge without a command reads `rst` and whether the host samples, and no other input. -/
theorem portValuesWithoutCommandHaveNoEffect : Obligations.PortValuesWithoutCommandHaveNoEffect := by
  intro s p q b rest hp hq hrst
  have hend : ({ s with host := .clock q b :: rest } : State).quietEdge.advance =
      ({ s with host := .clock p b :: rest } : State).quietEdge.advance :=
    quietEdge_advance_of_rst (s := { s with host := .clock p b :: rest }) rfl hrst
  rw [step_of_no_command rfl hp, step_of_no_command rfl hq, missesResponse_pins s b rest hrst, hend]

/-- Settles O9: the accepted word runs its command, and the host goes on; `rst` is 0 where a word is accepted. -/
theorem stepRunsTheAcceptedCommand : Obligations.StepRunsTheAcceptedCommand := by
  intro s w i haccepts hdecode
  have hstep : step s = thenAdvance (exec i s) := by
    rw [step_of_accepts haccepts]
    simp only [acceptWord, hdecode]
  refine ⟨hstep, fun t ht => ?_⟩
  obtain ⟨-, -, hhost, hdraws⟩ := exec_sameRest ht
  obtain ⟨hrst, -, -⟩ := State.ready_iff.1 haccepts.1
  rw [hstep, ht]
  simp [thenAdvance, State.advance, State.pins_of_host hhost, hrst, hhost, hdraws]

/-- Settles O10: the placed event is the command's, to an FHC that is ready, and the row's 40 bits are the word. -/
theorem placedWordIsAccepted : Obligations.PlacedWordIsAccepted := by
  intro s w
  have hword : tableWord 40 w.toNat = w := by simp [tableWord, Nat.mod_eq_of_lt w.isLt]
  refine ⟨?_, rfl, fun i => ?_⟩
  · have haccepts : (s.withFetchWord 40 w.toNat).accepts (tableWord 40 w.toNat) :=
      accepts_commandPins (c := { word := _, source := fullZeroSource }) rfl nofun rfl
    rwa [hword] at haccepts
  · rw [decodeTableWord, hword]
    cases decode w <;> simp

/-- Settles O48: both signals are 0 while `rst` = 1, and only an FHC with `rst` = 0 is ready. -/
theorem rstHoldsTheOutputs : Obligations.RstHoldsTheOutputs := by
  intro s hrst
  obtain ⟨hready, hpresented⟩ := port_signals_of_rst hrst
  refine ⟨hready, by simp [State.outputs, hpresented], fun w haccepts => ?_⟩
  obtain ⟨hrst', -, -⟩ := State.ready_iff.1 haccepts.1
  simp [hrst] at hrst'

/-- Settles O49: after a reset nothing is outstanding, so the FHC is ready and the host can miss no response. -/
theorem firstEdgeAfterResetAccepts : Obligations.FirstEdgeAfterResetAccepts := by
  intro s c b rest hreset hhost
  obtain ⟨-, -, -, hidle, hunreset⟩ := hreset
  have hpins : s.pins = commandPins c := by simp [State.pins, hhost]
  have hrst : s.pins.rst = false := by rw [hpins]; rfl
  have hbusy : s.busy = false := by simp [State.busy, hidle]
  obtain ⟨hready, hpresented⟩ := port_signals hrst hunreset
  have hnone : s.presented = none := by simp [hpresented, State.dueResponse, hidle]
  refine ⟨by simp [State.outputs, hready, hbusy], by simp [State.outputs, hnone],
    State.ready_iff.2 ⟨hrst, hunreset, hbusy⟩, by rw [hpins]; rfl, by simp [State.missesResponse, hnone],
    by rw [hpins, pinsWord_commandPins]⟩

end Sys2Proof.Proofs
end
